-- ==== Sys2Proof/Word.lean ====
section
/-! DEFINITION. The widths the hub's wires carry (R181): bytes and two-byte words. -/

namespace Sys2Proof

/-- One byte of a frame (R181). -/
abbrev Byte := BitVec 8

/-- A two-byte number of a frame, most significant byte first (R181). -/
abbrev Word := BitVec 16

/-- A 4-bit address of a frame's header (R181): hub 0, M1 1, M2 2, M3 3, S4 4, processor 15. -/
abbrev Address := BitVec 4

end Sys2Proof
end

