-- ==== Sys2Proof/Syntax.lean ====
section
/-! DEFINITION. The commands of the hub: one constructor of `Instr` per row of the table of operations and
events, with the operands the row's frame or event carries. -/

namespace Sys2Proof

/-- The two cells of the pack (00, "Why the part exists"). -/
inductive CellId where
  | one | two
deriving DecidableEq, Repr

/-- The four companion nodes behind port D (00, "How the outside reaches the part"). -/
inductive NodeId where
  | m1 | m2 | m3 | s4
deriving DecidableEq, Repr

/-- The records that have a staleness timer (R1, R2). -/
inductive TimedRecord where
  | cell (c : CellId)
  | input
deriving DecidableEq, Repr

/-- A good SAMPLE frame of M1 or M2 as it arrived (R181): destination, sequence number and payload fields.
Its CRC is the one R171 checked. -/
structure SampleFrame where
  dest        : Address
  seq         : Byte
  voltage     : Word
  current     : Word
  temperature : Word
  interval    : Word
  balance     : Word
  status      : Byte
deriving DecidableEq, Repr

/-- A good INPUT frame of M3 as it arrived (R181). -/
structure InputFrame where
  dest     : Address
  seq      : Byte
  adapter  : Word
  current  : Word
  vsys     : Word
  isys     : Word
  interval : Word
deriving DecidableEq, Repr

/-- A good STAGE frame of S4 as it arrived (R181). -/
structure StageFrame where
  dest    : Address
  seq     : Byte
  applied : Word
  mode    : Byte
  shuttle : Byte
  fault   : Byte
deriving DecidableEq, Repr

/-- The 20 bytes of a step entry as LOAD_STEP carries them (R183), unchecked and not yet normalised. -/
structure StepBytes where
  limit      : Word
  ceiling    : Word
  band       : Word
  path       : Byte
  gate       : Byte
  permission : Byte
  dwell      : Word
  selector   : Byte
  threshold  : Word
  flagRule   : Byte
  kind       : Byte
  q          : Byte
  a          : Byte
  b          : Byte
  announce   : Byte
deriving DecidableEq, Repr

/-- The two forms in which SET_CHARGE gives a cell's content (R14): an SOC in permille, or a scaled charge. -/
inductive ChargeArg where
  | soc (permille : Word)
  | scaled (mantissa : Word) (exponent : Byte)
deriving DecidableEq, Repr

/-- The hub's commands, one constructor per row of the table of operations and events. A row that names a
command of the processor is the arrival of the COMMAND frame that carries it (R156, R183). -/
inductive Instr where
  /-- Power-on, or RST asserted (R185). -/
  | powerOnOrRst
  /-- RST released, or the end of power-on (R185). -/
  | rstRelease
  /-- A bad frame on port U (R171). -/
  | portUBadFrame
  /-- A bad frame on port D (R172). -/
  | portDBadFrame
  /-- A good port D frame that fits no route entry and is no node REPLY (R174). -/
  | unfitFrame
  /-- A good port U frame of a kind other than COMMAND (R156). -/
  | otherFrameOnPortU
  /-- Any good COMMAND frame on port U, as received (R156). -/
  | command (dest src : Address) (seq : Byte) (payload : List Byte)
  /-- RESET addressed to the hub (R168). -/
  | reset (seq : Byte)
  /-- A SAMPLE from the monitor of a cell, with the level of the FOLD line at its arrival (R3, R21). -/
  | sample (cell : CellId) (f : SampleFrame) (fold : Bool)
  /-- An INPUT from M3 (R7). -/
  | input (f : InputFrame)
  /-- A STAGE report from S4 (R116). -/
  | stage (f : StageFrame)
  /-- A REPLY from a node on port D (R164). -/
  | nodeReply (node : NodeId) (dest : Address) (seq : Byte) (payload : List Byte)
  | loadStep (seq bank row col : Byte) (entry : StepBytes)
  | clearStepEntry (seq bank row col : Byte)
  | clearStepBank (seq bank : Byte)
  | readStep (seq bank row col : Byte)
  | loadTableCell (seq index : Byte) (value : Word)
  | loadTableOcv (seq index : Byte) (voltage soc : Word)
  | loadTableDerate (seq index : Byte) (temperature factor : Word)
  | loadTableGuard (seq index : Byte) (value : Word)
  | loadTableLimit (seq index : Byte) (value : Word)
  | loadTableBalance (seq index : Byte) (value : Word)
  | loadTableRoute (seq index : Byte) (value : Word)
  | readTable (seq table index : Byte)
  | lock (seq : Byte)
  | start (seq bank row col : Byte)
  | stop (seq : Byte)
  | swap (seq bank : Byte) (target : Option (Byte × Byte))
  | goto (seq row col : Byte)
  | overrideSet (seq : Byte)
  | overrideClear (seq : Byte)
  | hold (seq : Byte) (code : Option Word)
  | resumeContinue (seq : Byte)
  | resumeRetry (seq : Byte)
  | resumeHome (seq : Byte)
  | resumeStep (seq row col : Byte)
  | resumeStop (seq : Byte)
  | offer (seq : Byte) (voltage current : Word) (cls : Byte)
  | accept (seq : Byte)
  | withdraw (seq : Byte)
  | ship (seq : Byte)
  | balanceShuttle (seq cell : Byte) (amount : Option (Word × Byte))
  | balanceBleed (seq cell setting : Byte)
  | balanceStop (seq : Byte)
  | setCharge (seq cell : Byte) (content : ChargeArg)
  | query (seq selector argument part : Byte)
  /-- A COMMAND that R161 answers UNKNOWN. -/
  | unknownCommand (dest src : Address) (seq : Byte) (payload : List Byte)
  /-- A COMMAND addressed to a node (R164). -/
  | nodeCommand (node : NodeId) (src : Address) (seq : Byte) (payload : List Byte)
  /-- The head command's 250 ms wait timer runs out (R159). -/
  | waitLimitExpiry
  /-- A forwarded command's 40 ms answer timer runs out (R165). -/
  | nodeTimeout (node : NodeId)
  /-- The outstanding setpoint's 40 ms answer timer runs out (R117). -/
  | answerTimeout
  /-- A record's staleness timer runs out (R6). -/
  | stalenessExpiry (record : TimedRecord)
  /-- A cell's rest timer runs out (R11). -/
  | restExpiry (cell : CellId)
  /-- The running dwell timer reaches zero (R58). -/
  | dwellExpiry
  /-- The shuttle's time-limit timer reaches its length (R132). -/
  | timeLimitExpiry
  /-- The cooldown timer runs out (R134). -/
  | cooldownExpiry
  /-- A frame has left port U (R180). -/
  | portUFrameSent
  /-- A frame has left port D (R170). -/
  | portDFrameSent
deriving DecidableEq, Repr

end Sys2Proof
end

