-- ==== Sys2Proof/Decode.lean ====
section
/-! DEFINITION. The commands that words of the table spell: the table gives no row any bits, so no word spells one. The frames
the hub reads are in Machine/Link.lean (`classifyU`, `classifyD`) and Machine/Operands.lean (`parseCommand`). -/

namespace Sys2Proof

/-- The command a word of `nbits` bits spells by the table's bits: none (every row's `fields` is empty). -/
def decodeTableWord (_nbits _w : Nat) : Option Instr := none

end Sys2Proof
end

