-- ==== Sys2Proof/Config.lean ====
section
/-! DEFINITION. The figures the manual fixes for the part, and the one value it leaves open (a constant with no body). -/

namespace Sys2Proof.Config

/-- The longest interval taken as reported, in 100 µs units (R4). -/
def maxInterval : Nat := 10000

/-- Charge units in one mAh (R8). -/
def unitsPerMah : Nat := 36000000

/-- The width of each hysteresis band, in mV or tenths of a degree (R75). -/
def hysteresis : Int := 20

/-- The basic budget's voltage in mV and current in mA (R93). -/
def basicVoltage : Int := 5000

/-- See `basicVoltage`. -/
def basicCurrent : Int := 500

/-- The floor on the input stage's divisor, in mV (R94). -/
def packFloor : Int := 5000

/-- The power stage's current step in mA (R95). -/
def currentStep : Int := 25

/-- The answer timers of node commands and setpoints, in ms (R115, R164). -/
def answerMs : Nat := 40

/-- The wait limit of the head command, in ms (R159). -/
def waitMs : Nat := 250

/-- How many commands are held at most (R155). -/
def heldMax : Nat := 4

/-- How many frames the forward queue holds at most (R178). -/
def forwardMax : Nat := 8

/-- The bad frame that is reported (R172). -/
def reportedBadFrame : Nat := 4

/-- The longest payload of a good frame (R171). -/
def maxPayload : Nat := 24

/-- The bytes of a record that one QUERY part carries (R182). -/
def partBytes : Nat := 19

/-- DESIGN CHOICE, a free value (log 10): the three bytes that stand for a remaining charge below 0. R130 lets the
remaining charge go below 0, and R182 gives a charge an unsigned mantissa and exponent. Safe: nothing constrains it. -/
opaque negativeCharge : Int → BitVec 24

/-- DESIGN CHOICE, a free value (log 29): whether a STAGE report, given by its bytes, that arrives after an answer timeout
and no reset since, with a later SETPOINT of these bytes outstanding this many ms, is the late report of the one that timed out. R116 makes a
report its outstanding setpoint's answer, R116 and R120 make a late one unsolicited, and no field tells them apart. Safe:
nothing constrains it. -/
opaque lateReport : List (BitVec 8) → List (BitVec 8) → Nat → Bool

end Sys2Proof.Config
end

