-- ==== Sys2Proof/Machine/Types.lean ====
section
/-! DEFINITION. The kinds of data the hub's blocks hold: enumerations, entries, records and frames. Quantities with a unit
are integers, as the manual's Conventions have them; counts and timers are naturals; bytes and words of frames are bit
vectors. -/

namespace Sys2Proof.Machine

/-- One value for each cell. -/
structure PerCell (α : Type) where
  one : α
  two : α
deriving DecidableEq, Repr

/-- One value for each companion node. -/
structure PerNode (α : Type) where
  m1 : α
  m2 : α
  m3 : α
  s4 : α
deriving DecidableEq, Repr

/-- The operating states (R184). -/
inductive OpState where
  | config | run | held
deriving DecidableEq, Repr

/-- The timeliness of a monitor's measurements (R6). -/
inductive MonitorState where
  | absent | fresh | stale
deriving DecidableEq, Repr

/-! ## Step banks and sequencing -/

/-- The two step banks (R28). -/
inductive BankId where
  | a | b
deriving DecidableEq, Repr

/-- A step address (bank, row, column) (00, "Steps and addresses"). -/
structure StepAddr where
  bank : BankId
  row  : Fin 12
  col  : Fin 8
deriving DecidableEq, Repr

/-- The path field of a step (R24). -/
inductive PathKind where
  | charge | adapter
deriving DecidableEq, Repr

/-- The gate field of a step (R24, R98). -/
inductive Gate where
  | opened | closed | untilT | untilD
deriving DecidableEq, Repr

/-- The balance permission of a step (R24). -/
inductive Permission where
  | none | bleed | shuttle | any
deriving DecidableEq, Repr

/-- The test selectors, in the order of R24. -/
inductive Selector where
  | none | vhiGe | vloGe | vloLt | ipackLe | tmaxGe | tmaxLt | dsocGe | socloGe | offerPending | folded
  | inputPresent | limited
deriving DecidableEq, Repr

/-- The flag rules of T (R56). -/
inductive FlagRule where
  | track | sticky | hold | entry
deriving DecidableEq, Repr

/-- The next rules with the operands their kind reads, in the ranges R26 gives them. -/
inductive NextRule where
  | stay
  | advance
  | onT (a : Fin 8)
  | split (a b : Fin 8)
  | onD (q : Fin 11) (a : Fin 8)
  | onTRow (q : Fin 11)
  | byOffer (a : Fin 5)
  | home
  | switch (q : Fin 11) (a : Fin 8)
deriving DecidableEq, Repr

/-- A filled step entry: the twelve fields of R24. -/
structure StepEntry where
  limit      : Int
  ceiling    : Int
  band       : Int
  path       : PathKind
  gate       : Gate
  permission : Permission
  dwell      : Option Nat
  selector   : Selector
  threshold  : Int
  flagRule   : FlagRule
  next       : NextRule
  announce   : Bool
deriving DecidableEq, Repr

/-- A bank: 12 rows by 8 columns, the entry of (row, column) at 8 × row + column, `none` where empty (R28). -/
abbrev Bank := Vector (Option StepEntry) 96

/-- The dwell timer (R44, R57), with the remaining milliseconds while running or paused. -/
inductive DwellTimer where
  | noDwell
  | running (ms : Nat)
  | paused (ms : Nat)
  | expired
deriving DecidableEq, Repr

/-- A swap waiting for the next round evaluation (R36), with the held SWAP that awaits its outcome. -/
structure PendingSwap where
  bank   : BankId
  target : Option (Fin 11 × Fin 8)
  place  : Nat
  seq    : Byte
deriving DecidableEq, Repr

/-! ## Cells -/

/-- The hard limits a cell can cross (R17). -/
structure Breach where
  ov : Bool
  uv : Bool
  ot : Bool
deriving DecidableEq, Repr

/-- A clean sample's part in a round (R1, R20). -/
structure Contribution where
  voltage     : Int
  temperature : Int
  current     : Int
  balance     : Int
deriving DecidableEq, Repr

/-- A cell record (R1). Timers hold the milliseconds left; `none` is stopped (staleness) or expired (rest). The
round-ready mark is set exactly while `contribution` holds one. -/
structure CellRecord where
  monitor      : MonitorState
  staleness    : Option Nat
  lastSeq      : Option Byte
  voltage      : Option Int
  temperature  : Option Int
  current      : Int
  balance      : Int
  interval     : Nat
  bleeding     : Bool
  fault        : Bool
  charge       : Nat
  soc          : Nat
  known        : Bool
  rest         : Option Nat
  rested       : Bool
  breach       : Breach
  contribution : Option Contribution
deriving DecidableEq, Repr

/-- The input record (R2). -/
structure InputRecord where
  monitor   : MonitorState
  staleness : Option Nat
  lastSeq   : Option Byte
  adapter   : Int
  current   : Int
  vsys      : Int
  isys      : Int
  interval  : Nat
deriving DecidableEq, Repr

/-- A round summary (R21). The higher, lower, hotter and colder figures are read off V1, V2, T1 and T2. -/
structure Summary where
  v1       : Int
  v2       : Int
  t1       : Int
  t2       : Int
  pack     : Int
  soc1     : Nat
  soc2     : Nat
  fold     : Bool
  present  : Bool
  sysPower : Int
deriving DecidableEq, Repr

/-- One point of an interpolation table: a voltage and an SOC (R16), or a temperature and a factor (R90). -/
structure Point where
  x : Int
  y : Int
deriving DecidableEq, Repr

/-- A table of `n` points with its valid mark (R16, R90). -/
structure PointTable (n : Nat) where
  points : Vector Point n
  valid  : Bool
deriving DecidableEq, Repr

/-! ## Guards -/

/-- A set of override causes, in the column order of R74. -/
structure Causes where
  cellHigh  : Bool
  cellLow   : Bool
  warm      : Bool
  cold      : Bool
  stale     : Bool
  link      : Bool
  imbalance : Bool
  hostSet   : Bool
deriving DecidableEq, Repr

/-- The event-detected causes (R74). -/
inductive EventCause where
  | stale | link | hostSet
deriving DecidableEq, Repr

/-- What changed the override cause set (R83). -/
inductive CauseSource where
  | round | stale | link | host | start | stop
deriving DecidableEq, Repr

/-! ## Path and stage -/

/-- The path modes (R107). -/
inductive Mode where
  | ship | battery | adapter | charge | supplement
deriving DecidableEq, Repr

/-- The shuttle direction of a SETPOINT (R114). -/
inductive ShuttleDir where
  | off | oneToTwo | twoToOne
deriving DecidableEq, Repr

/-- A composed SETPOINT with the operating state it was composed in (R114). -/
structure Setpoint where
  mode       : Mode
  charge     : Int
  dir        : ShuttleDir
  current    : Int
  composedIn : OpState
deriving DecidableEq, Repr

/-- A SETPOINT that has been sent, with the sequence number it took at sending (R114, R173). -/
structure SentSetpoint where
  setpoint : Setpoint
  seq      : Byte
deriving DecidableEq, Repr

/-- A supply offer, as clamped at OFFER (R109). -/
structure Offer where
  voltage : Int
  current : Int
  cls     : Fin 4
deriving DecidableEq, Repr

/-- The hand-over record (R87). -/
structure HandOver where
  summary : Option Summary
  addr    : StepAddr
  limit   : Int
  ceiling : Int
  band    : Int
  path    : PathKind
  gate    : Gate
  column  : Option (Fin 8)
  t       : Bool
  d       : Bool
deriving DecidableEq, Repr

/-- The supply a computation budgets against (R93). -/
inductive BudgetSource where
  | none | basic | offer
deriving DecidableEq, Repr

/-- The figures of the input stage, in mW (R94). -/
structure Budget where
  pBudget : Int
  pAvail  : Int
  pSys    : Int
  pChg    : Int
deriving DecidableEq, Repr

/-- The five terms of the combine stage, in the order of R95. -/
inductive LimitTerm where
  | thermal | taper | input | hinge | hard
deriving DecidableEq, Repr

/-- The figures of the stages a no-round computation skips (R89, R100). -/
structure StageFigures where
  factor   : Int
  therm    : Int
  taper    : Int
  input    : Int
  raw      : Int
  limiting : LimitTerm
deriving DecidableEq, Repr

/-- The computation record (R100). -/
structure Computation where
  addr        : Option StepAddr
  column      : Option (Fin 8)
  source      : BudgetSource
  budget      : Option Budget
  figures     : Option StageFigures
  slewLimited : Bool
  gated       : Bool
  supplement  : Bool
  iSet        : Int
  mode        : Mode
  noRound     : Bool
deriving DecidableEq, Repr

/-- The last STAGE report taken (R104, R116). Mode and shuttle state are the codes the stage sent. -/
structure StageRecord where
  applied  : Int
  mode     : Byte
  shuttle  : Byte
  fault    : Byte
  seq      : Byte
  answered : Bool
deriving DecidableEq, Repr

/-! ## Balancing -/

/-- Who started a bleed or a shuttle (R124). -/
inductive Origin where
  | none | auto | host
deriving DecidableEq, Repr

/-- Why a shuttle was ABORTED (R133). -/
inductive AbortReason where
  | override | permission | hold | stop | command | reset
deriving DecidableEq, Repr

/-- How the last shuttle ended (R124). -/
inductive EndReason where
  | none
  | done
  | timeout
  | aborted (why : AbortReason)
deriving DecidableEq, Repr

/-- A bleed record (R124). -/
structure BleedRecord where
  on            : Bool
  origin        : Origin
  disagreements : Nat
deriving DecidableEq, Repr

/-- The shuttle context (R124). The state is ACTIVE while `active`; the time-limit timer runs exactly then, with `elapsed`
and the `length` it started with; the cooldown timer holds the milliseconds left, `none` when expired. -/
structure Shuttle where
  active          : Bool
  origin          : Origin
  source          : Option CellId
  lead            : Int
  amount          : Nat
  remaining       : Int
  transferred     : Nat
  elapsed         : Nat
  length          : Nat
  cooldown        : Option Nat
  endReason       : EndReason
  lastTransferred : Nat
  permission      : Option Permission
  overrideMark    : Bool
deriving DecidableEq, Repr

/-! ## Holds -/

/-- The hold causes (R141). -/
inductive HoldKind where
  | hardOv | hardUv | hardOt | stageSilent | stageFault | emptyStep | host
deriving DecidableEq, Repr

/-- The sources of hold causes (R141). -/
inductive HoldSource where
  | cell (c : CellId)
  | stage
  | sequencer
  | host
deriving DecidableEq, Repr

/-- A trapped value, in the form its cause gives it (R141, R182). -/
inductive TrapValue where
  | absent
  | measured (v : Int)
  | number (b : Byte)
  | code (w : Word)
  | address (a : StepAddr)
deriving DecidableEq, Repr

/-- A hold cause with its trap data (R141). -/
structure HoldCause where
  kind   : HoldKind
  source : HoldSource
  value  : TrapValue
  seq    : Option Byte
  passed : Bool
deriving DecidableEq, Repr

/-- The dispositions of RESUME (R149). -/
inductive Disposition where
  | continue | retry | home | step | stop
deriving DecidableEq, Repr

/-- What ended a hold (R142). -/
inductive Resolution where
  | resumed (d : Disposition)
  | reset
deriving DecidableEq, Repr

/-- The hold record (R142). `shuttle` is the source cell and remaining charge of a shuttle ACTIVE at entry. -/
structure HoldRecord where
  cause         : HoldCause
  stored        : Option StepAddr
  t             : Bool
  d             : Bool
  dwellLeft     : Option Nat
  causes        : Causes
  shuttle       : Option (CellId × Int)
  swapCancelled : Bool
  reentry       : Bool
  repeated      : Bool
  resolution    : Option Resolution
deriving DecidableEq, Repr

/-! ## Frames, replies and alerts -/

/-- The statuses of hub replies (R162). -/
inductive Status where
  | ok | clamped | busy | state | locked | activeBank | badEntry | badTable | aborted | nodeTimeout | unknown
deriving DecidableEq, Repr

/-- One field of a reply, an alert or a QUERY record, by the form R182 gives it. -/
inductive Field where
  /-- 1 byte: sequence numbers, counts, cells, codes, enumerations. -/
  | byte (n : Nat)
  /-- 2 bytes: voltages, SOCs, intervals, permille unsigned; currents and temperatures signed. -/
  | word (i : Int)
  /-- 4 bytes: powers signed, ms times. -/
  | long (i : Int)
  /-- 3 bytes: a charge in the scaled form of R13. -/
  | charge (c : Int)
  /-- 1 byte, bit n for column n. -/
  | causes (c : Causes)
  /-- 2 bytes: a step address, or none. -/
  | step (a : Option StepAddr)
  /-- 1 byte: a bank, or none. -/
  | bank (b : Option BankId)
  /-- 20 bytes: a step entry (R183), zeros where the entry is empty. -/
  | entry (e : Option StepEntry)
  /-- One bit among the packed marks. -/
  | mark (b : Bool)
  /-- Bytes as they stand. -/
  | raw (bytes : List Byte)
deriving DecidableEq, Repr

/-- A hub reply waiting in the reply queue (R162); `answers` is the place of the held command it answers, none for the
RESET reply. -/
structure Reply where
  answers : Option Nat
  status  : Status
  echo    : Byte
  results : List Field
deriving DecidableEq, Repr

/-- The four alert kinds (R179). -/
inductive AlertKind where
  | hold | override | step | balance
deriving DecidableEq, Repr

/-- An alert waiting in the alert queue (R179). -/
structure Alert where
  kind   : AlertKind
  fields : List Field
deriving DecidableEq, Repr

/-- A good frame, less the CRC that follows from it (R181). -/
structure Frame where
  dest    : Address
  src     : Address
  kind    : Byte
  seq     : Byte
  payload : List Byte
deriving DecidableEq, Repr

/-- A frame for port U with the place of the held command that leaves the queue when it has been sent (R164, R180). -/
structure UpFrame where
  frame   : Frame
  answers : Option Nat
deriving DecidableEq, Repr

/-- The pass settings of a route entry, and the pass decision on a frame (R175, R176). -/
inductive Pass where
  | off | plain | annotated
deriving DecidableEq, Repr

/-- A route table entry with its decimation counter (R175, R176). -/
structure RouteEntry where
  use     : Bool
  pass    : Pass
  n       : Nat
  counter : Nat
deriving DecidableEq, Repr

/-- The states of a held command (R155). -/
inductive HeldState where
  | waiting | issued | atNode | replied
deriving DecidableEq, Repr

/-- A held command (R155). `place` is its place in the queue (R163); `wait` is the time since it became the head, while
its wait timer runs. -/
structure HeldCommand where
  place   : Nat
  dest    : Address
  src     : Address
  seq     : Byte
  payload : List Byte
  state   : HeldState
  wait    : Option Nat
deriving DecidableEq, Repr

/-- An entry of the node-outstanding table (R163), with the milliseconds since forwarding. -/
inductive NodeEntry where
  | empty
  | command (place : Nat) (seq : Byte) (elapsed : Nat)
  | setpoint (sent : SentSetpoint) (elapsed : Nat)
deriving DecidableEq, Repr

/-- What a command can wait on (R158, R160). -/
inductive Reservation where
  | banks
  | shuttle
  | node (n : NodeId)
deriving DecidableEq, Repr

end Sys2Proof.Machine
end

