-- ==== Sys2Proof/Machine/Defaults.lean ====
section
/-! DEFINITION. The power-on values of the tables, with the ranges LOAD_TABLE clamps to. -/

namespace Sys2Proof.Machine

/-- The cell table's defaults (R15): two capacities, REST_I, REST_S, OCV_CORR. -/
def cellTableDefaults : Vector Int 5 := #v[0, 0, 50, 900, 30]

/-- The guard table's defaults (R68). -/
def guardDefaults : Vector Int 8 := #v[4480, 3000, 450, 0, 150, 4500, 500, 90]

/-- The guard table's ranges (R68). -/
def guardRanges : Vector (Int × Int) 8 :=
  #v[(3000, 4800), (2000, 4000), (-200, 800), (-400, 600), (40, 1000), (3000, 20000), (25, 8000), (70, 98)]

/-- The limit table's defaults (R70). -/
def limitDefaults : Vector Int 6 := #v[4550, 2500, 600, 5000, 6000, 200]

/-- The limit table's ranges (R70). -/
def limitRanges : Vector (Int × Int) 6 :=
  #v[(4200, 4800), (2000, 3200), (400, 850), (0, 8000), (1000, 8000), (50, 2000)]

/-- The balance table's defaults (R122). -/
def balanceDefaults : Vector Int 7 := #v[20, 5, 10, 4300, 1000, 900, 60]

/-- The balance table's ranges (R122). -/
def balanceRanges : Vector (Int × Int) 7 :=
  #v[(5, 200), (0, 199), (1, 200), (3000, 4600), (100, 2000), (10, 3600), (0, 3600)]

/-- A table of points as power-on leaves it: every point (0, 0), and not valid (R16, R90). -/
def emptyPoints (n : Nat) : PointTable n := ⟨Vector.replicate n ⟨0, 0⟩, false⟩

/-- An entry of the route table that is used and passed plain (R175). -/
def routeUsedPlain : RouteEntry := ⟨true, .plain, 1, 0⟩

/-- The entry for STAGE from node 4: used, not passed (R175). -/
def routeUsedOff : RouteEntry := ⟨true, .off, 1, 0⟩

/-- One of the other eight entries (R175). -/
def routeOff : RouteEntry := ⟨false, .off, 1, 0⟩

/-- The route table's defaults, entry 3 × (node − 1) + (SAMPLE 0, INPUT 1, STAGE 2) (R175). -/
def routeDefaults : Vector RouteEntry 12 :=
  #v[routeUsedPlain, routeOff, routeOff, routeUsedPlain, routeOff, routeOff,
     routeOff, routeUsedPlain, routeOff, routeOff, routeOff, routeUsedOff]

/-- The empty override cause set. -/
def Causes.none : Causes := ⟨false, false, false, false, false, false, false, false⟩

/-- The empty breach mark. -/
def Breach.none : Breach := ⟨false, false, false⟩

/-- The milliseconds a rest timer runs from power-on: REST_S at its default (R11, R15). -/
def restDefaultMs : Nat := 900000

/-- A cell record's power-on values (R1). -/
def cellRecordReset : CellRecord where
  monitor := .absent
  staleness := none
  lastSeq := none
  voltage := none
  temperature := none
  current := 0
  balance := 0
  interval := 0
  bleeding := false
  fault := false
  charge := 0
  soc := 0
  known := false
  rest := some restDefaultMs
  rested := false
  breach := Breach.none
  contribution := none

/-- The input record's power-on values (R2). -/
def inputRecordReset : InputRecord where
  monitor := .absent
  staleness := none
  lastSeq := none
  adapter := 0
  current := 0
  vsys := 0
  isys := 0
  interval := 0

/-- A bleed record's power-on values (R140). -/
def bleedReset : BleedRecord := ⟨false, .none, 0⟩

/-- The shuttle context's power-on values (R140). -/
def shuttleReset : Shuttle where
  active := false
  origin := .none
  source := none
  lead := 0
  amount := 0
  remaining := 0
  transferred := 0
  elapsed := 0
  length := 0
  cooldown := none
  endReason := .none
  lastTransferred := 0
  permission := none
  overrideMark := false

/-- A bank with all 96 entries empty (R28). -/
def emptyBank : Bank := Vector.replicate 96 none

end Sys2Proof.Machine
end

