-- ==== Sys2Proof/Machine/Codes.lean ====
section
/-! DEFINITION. The enumeration codes of R183, in both directions where the hub reads them. -/

namespace Sys2Proof.Machine

/-- Bank codes: A 0, B 1 (R183). -/
def BankId.code : BankId → Nat
  | .a => 0
  | .b => 1

/-- The bank a byte names, if any (R31). -/
def bankOf (b : Byte) : Option BankId :=
  if b = 0 then some .a else if b = 1 then some .b else none

/-- Bank code with none 255 (R183). -/
def bankCode (b : Option BankId) : Nat := (b.map BankId.code).getD 255

/-- The bank that is not `b`. -/
def BankId.other : BankId → BankId
  | .a => .b
  | .b => .a

/-- The row of a bank a byte names: 0..11 (R31). -/
def rowOf (b : Byte) : Option (Fin 12) := if h : b.toNat < 12 then some ⟨b.toNat, h⟩ else none

/-- The profile row a byte names: 0..10 (R28). -/
def profileRowOf (b : Byte) : Option (Fin 11) := if h : b.toNat < 11 then some ⟨b.toNat, h⟩ else none

/-- The column a byte names: 0..7 (R31). -/
def colOf (b : Byte) : Option (Fin 8) := if h : b.toNat < 8 then some ⟨b.toNat, h⟩ else none

/-- The cell a byte names: 1 or 2 (R14, R135). -/
def cellOf (b : Byte) : Option CellId :=
  if b = 1 then some .one else if b = 2 then some .two else none

/-- Cell numbers (R182). -/
def cellNumber : CellId → Nat
  | .one => 1
  | .two => 2

/-- The node an address names: 1 to 4 (R164). -/
def nodeOf (a : Address) : Option NodeId :=
  if a = 1 then some .m1 else if a = 2 then some .m2 else if a = 3 then some .m3 else if a = 4 then some .s4 else none

/-- The address of a node (R181). -/
def nodeAddress : NodeId → Address
  | .m1 => 1
  | .m2 => 2
  | .m3 => 3
  | .s4 => 4

/-- Node numbers (R182). -/
def nodeNumber (n : NodeId) : Nat := (nodeAddress n).toNat

/-- The monitor of a cell (00, port D). -/
def monitorOf : CellId → NodeId
  | .one => .m1
  | .two => .m2

/-- Path codes (R183). -/
def PathKind.code : PathKind → Nat
  | .charge => 0
  | .adapter => 1

/-- The path a byte codes. -/
def pathOf (b : Byte) : Option PathKind :=
  if b = 0 then some .charge else if b = 1 then some .adapter else none

/-- Gate codes (R183). -/
def Gate.code : Gate → Nat
  | .opened => 0
  | .closed => 1
  | .untilT => 2
  | .untilD => 3

/-- The gate a byte codes. -/
def gateOf (b : Byte) : Option Gate :=
  if b = 0 then some .opened else if b = 1 then some .closed else if b = 2 then some .untilT
  else if b = 3 then some .untilD else none

/-- Permission codes (R183). -/
def Permission.code : Permission → Nat
  | .none => 0
  | .bleed => 1
  | .shuttle => 2
  | .any => 3

/-- The permission a byte codes. -/
def permissionOf (b : Byte) : Option Permission :=
  if b = 0 then some .none else if b = 1 then some .bleed else if b = 2 then some .shuttle
  else if b = 3 then some .any else none

/-- Test selector codes, in the order of R24 (R183). -/
def Selector.code : Selector → Nat
  | .none => 0
  | .vhiGe => 1
  | .vloGe => 2
  | .vloLt => 3
  | .ipackLe => 4
  | .tmaxGe => 5
  | .tmaxLt => 6
  | .dsocGe => 7
  | .socloGe => 8
  | .offerPending => 9
  | .folded => 10
  | .inputPresent => 11
  | .limited => 12

/-- The test selector a byte codes. -/
def selectorOf (b : Byte) : Option Selector :=
  if b = 0 then some .none else if b = 1 then some .vhiGe else if b = 2 then some .vloGe
  else if b = 3 then some .vloLt else if b = 4 then some .ipackLe else if b = 5 then some .tmaxGe
  else if b = 6 then some .tmaxLt else if b = 7 then some .dsocGe else if b = 8 then some .socloGe
  else if b = 9 then some .offerPending else if b = 10 then some .folded else if b = 11 then some .inputPresent
  else if b = 12 then some .limited else none

/-- Flag rule codes (R183). -/
def FlagRule.code : FlagRule → Nat
  | .track => 0
  | .sticky => 1
  | .hold => 2
  | .entry => 3

/-- The flag rule a byte codes. -/
def flagRuleOf (b : Byte) : Option FlagRule :=
  if b = 0 then some .track else if b = 1 then some .sticky else if b = 2 then some .hold
  else if b = 3 then some .entry else none

/-- Next-rule kind codes (R183). -/
def NextRule.code : NextRule → Nat
  | .stay => 0
  | .advance => 1
  | .onT _ => 2
  | .split _ _ => 3
  | .onD _ _ => 4
  | .onTRow _ => 5
  | .byOffer _ => 6
  | .home => 7
  | .switch _ _ => 8

/-- The operands q, a, b of a next rule, 0 where its kind reads none (R26). -/
def NextRule.operands : NextRule → Nat × Nat × Nat
  | .stay => (0, 0, 0)
  | .advance => (0, 0, 0)
  | .onT a => (0, a, 0)
  | .split a b => (0, a, b)
  | .onD q a => (q, a, 0)
  | .onTRow q => (q, 0, 0)
  | .byOffer a => (0, a, 0)
  | .home => (0, 0, 0)
  | .switch q a => (q, a, 0)

/-- The next rule of a kind byte and its operands, where the kind is known and each operand it reads meets its condition
(R26). Operands the kind does not read are not looked at. -/
def nextRuleOf (kind q a b : Byte) : Option NextRule :=
  if kind = 0 then some .stay
  else if kind = 1 then some .advance
  else if kind = 2 then (colOf a).map .onT
  else if kind = 3 then
    match colOf a, colOf b with
    | some a, some b => some (.split a b)
    | _, _ => none
  else if kind = 4 then
    match profileRowOf q, colOf a with
    | some q, some a => some (.onD q a)
    | _, _ => none
  else if kind = 5 then (profileRowOf q).map .onTRow
  else if kind = 6 then if h : a.toNat < 5 then some (.byOffer ⟨a.toNat, h⟩) else none
  else if kind = 7 then some .home
  else if kind = 8 then
    match profileRowOf q, colOf a with
    | some q, some a => some (.switch q a)
    | _, _ => none
  else none

/-- The announce setting a byte codes: 0 no, 1 yes (R183). -/
def announceOf (b : Byte) : Option Bool :=
  if b = 0 then some false else if b = 1 then some true else none

/-- Status codes (R183). -/
def Status.code : Status → Nat
  | .ok => 0
  | .clamped => 1
  | .busy => 2
  | .state => 3
  | .locked => 4
  | .activeBank => 5
  | .badEntry => 6
  | .badTable => 7
  | .aborted => 8
  | .nodeTimeout => 9
  | .unknown => 10

/-- Operating state codes (R183). -/
def OpState.code : OpState → Nat
  | .config => 0
  | .run => 1
  | .held => 2

/-- Monitor state codes (R183). -/
def MonitorState.code : MonitorState → Nat
  | .absent => 0
  | .fresh => 1
  | .stale => 2

/-- Mode codes (R183). -/
def Mode.code : Mode → Nat
  | .ship => 0
  | .battery => 1
  | .adapter => 2
  | .charge => 3
  | .supplement => 4

/-- Shuttle direction codes (R183). -/
def ShuttleDir.code : ShuttleDir → Nat
  | .off => 0
  | .oneToTwo => 1
  | .twoToOne => 2

/-- Dwell timer state codes (R183). -/
def DwellTimer.code : DwellTimer → Nat
  | .noDwell => 0
  | .running _ => 1
  | .paused _ => 2
  | .expired => 3

/-- Last test result codes: false 0, true 1, none 255 (R183). -/
def testCode : Option Bool → Nat
  | some false => 0
  | some true => 1
  | none => 255

/-- Budget source codes (R183). -/
def BudgetSource.code : BudgetSource → Nat
  | .none => 0
  | .basic => 1
  | .offer => 2

/-- Limiting term codes (R183). -/
def LimitTerm.code : LimitTerm → Nat
  | .thermal => 0
  | .taper => 1
  | .input => 2
  | .hinge => 3
  | .hard => 4

/-- Origin codes (R183). -/
def Origin.code : Origin → Nat
  | .none => 0
  | .auto => 1
  | .host => 2

/-- Shuttle end reason codes (R183). -/
def EndReason.code : EndReason → Nat
  | .none => 0
  | .done => 1
  | .timeout => 2
  | .aborted _ => 3

/-- ABORTED sub-reason codes (R183). -/
def EndReason.subCode : EndReason → Nat
  | .aborted .override => 1
  | .aborted .permission => 2
  | .aborted .hold => 3
  | .aborted .stop => 4
  | .aborted .command => 5
  | .aborted .reset => 6
  | _ => 0

/-- Hold cause codes (R183). -/
def HoldKind.code : HoldKind → Nat
  | .hardOv => 0
  | .hardUv => 1
  | .hardOt => 2
  | .stageSilent => 3
  | .stageFault => 4
  | .emptyStep => 5
  | .host => 6

/-- Hold source codes (R183). -/
def HoldSource.code : HoldSource → Nat
  | .cell .one => 1
  | .cell .two => 2
  | .stage => 3
  | .sequencer => 4
  | .host => 5

/-- Disposition codes (R183). -/
def Disposition.code : Disposition → Nat
  | .continue => 0
  | .retry => 1
  | .home => 2
  | .step => 3
  | .stop => 4

/-- Hold resolution codes: a disposition, RESET 5, none 255 (R183). -/
def resolutionCode : Option Resolution → Nat
  | some (.resumed d) => d.code
  | some .reset => 5
  | none => 255

/-- Held-command state codes (R183). -/
def HeldState.code : HeldState → Nat
  | .waiting => 0
  | .issued => 1
  | .atNode => 2
  | .replied => 3

/-- OVERRIDE alert source codes (R183). -/
def CauseSource.code : CauseSource → Nat
  | .round => 0
  | .stale => 1
  | .link => 2
  | .host => 3
  | .start => 4
  | .stop => 5

/-- Alert kind codes (R183). -/
def AlertKind.code : AlertKind → Nat
  | .hold => 0
  | .override => 1
  | .step => 2
  | .balance => 3

/-- Pass codes (R183). -/
def Pass.code : Pass → Nat
  | .off => 0
  | .plain => 1
  | .annotated => 2

/-- The reservation a BUSY reply names: BANKS 0, SHUTTLE 1, NODEn 1 + n (R182). -/
def Reservation.code : Reservation → Nat
  | .banks => 0
  | .shuttle => 1
  | .node n => 1 + nodeNumber n

end Sys2Proof.Machine
end

