-- ==== Sys2Proof/Machine/Bytes.lean ====
section
/-! DEFINITION. Bytes on the wire: the frame check, frames (R181), the scaled charge (R13) and the encoding of reply
fields (R182, R183). -/

namespace Sys2Proof.Machine

/-! ## Words and bytes -/

/-- The upper byte of a word. -/
def hiByte (w : Word) : Byte := w.extractLsb' 8 8

/-- The lower byte of a word. -/
def loByte (w : Word) : Byte := w.extractLsb' 0 8

/-- A word from its bytes, most significant first (R181). -/
def wordOf (hi lo : Byte) : Word := hi ++ lo

/-- The two bytes of a word, most significant first (R181). -/
def wordBytes (w : Word) : List Byte := [hiByte w, loByte w]

/-- The four bytes of a 32-bit number, most significant first (R181). -/
def longBytes (v : BitVec 32) : List Byte :=
  [v.extractLsb' 24 8, v.extractLsb' 16 8, v.extractLsb' 8 8, v.extractLsb' 0 8]

/-- The three bytes of a 24-bit number, most significant first. -/
def tripleBytes (v : BitVec 24) : List Byte := [v.extractLsb' 16 8, v.extractLsb' 8 8, v.extractLsb' 0 8]

/-! ## The frame check -/

/-- One bit of the CRC, most significant bit first: x^8+x^5+x^3+x^2+x+1 (R181). -/
def crcBit (r : Byte) : Byte := if r.msb then (r <<< 1) ^^^ 0x2F#8 else r <<< 1

/-- One byte of the CRC (R181). -/
def crcByte (r b : Byte) : Byte := Nat.repeat crcBit 8 (r ^^^ b)

/-- The CRC of a frame's header and payload, from the initial value 0xFF (R181). -/
def crc (bytes : List Byte) : Byte := bytes.foldl crcByte 0xFF#8

/-- The first header byte: destination in the upper four bits, source in the lower four (R181). -/
def Frame.addressByte (f : Frame) : Byte := f.dest ++ f.src

/-- A frame's header and payload (R181). -/
def Frame.body (f : Frame) : List Byte :=
  f.addressByte :: f.kind :: f.seq :: BitVec.ofNat 8 f.payload.length :: f.payload

/-- A frame's bytes on the wire, CRC last (R171, R181). -/
def Frame.bytes (f : Frame) : List Byte := f.body ++ [crc f.body]

/-- The kind codes (R181). -/
def kindSample : Byte := 1
/-- See `kindSample`. -/
def kindInput : Byte := 2
/-- See `kindSample`. -/
def kindStage : Byte := 3
/-- See `kindSample`. -/
def kindSetpoint : Byte := 4
/-- See `kindSample`. -/
def kindBleed : Byte := 5
/-- See `kindSample`. -/
def kindCommand : Byte := 6
/-- See `kindSample`. -/
def kindReply : Byte := 7
/-- See `kindSample`. -/
def kindAlert : Byte := 8

/-- The hub's address (R181). -/
def hubAddress : Address := 0

/-- The processor's management address (R156, R181). -/
def processorAddress : Address := 15

/-- The payload of a SAMPLE (R181). -/
def samplePayload (f : SampleFrame) : List Byte :=
  wordBytes f.voltage ++ wordBytes f.current ++ wordBytes f.temperature ++ wordBytes f.interval ++ wordBytes f.balance
    ++ [f.status]

/-- A SAMPLE as received from a monitor (R181). -/
def sampleToFrame (c : CellId) (f : SampleFrame) : Frame :=
  ⟨f.dest, nodeAddress (monitorOf c), kindSample, f.seq, samplePayload f⟩

/-- An INPUT as received from M3 (R181). -/
def inputToFrame (f : InputFrame) : Frame :=
  ⟨f.dest, nodeAddress .m3, kindInput, f.seq,
    wordBytes f.adapter ++ wordBytes f.current ++ wordBytes f.vsys ++ wordBytes f.isys ++ wordBytes f.interval⟩

/-- A STAGE as received from S4 (R181). -/
def stageToFrame (f : StageFrame) : Frame :=
  ⟨f.dest, nodeAddress .s4, kindStage, f.seq, wordBytes f.applied ++ [f.mode, f.shuttle, f.fault]⟩

/-! ## The scaled charge -/

/-- The scaled charge of a content: mantissa and exponent (R13). -/
def scaled (q : Nat) : Nat × Nat :=
  let e := Nat.log2 q - 15
  let m := if e = 0 then q else (q + 2 ^ (e - 1)) / 2 ^ e
  if m = 65536 then (32768, e + 1) else (m, e)

/-- The content a scaled charge stands for (R13). -/
def expand (mantissa : Word) (exponent : Byte) : Nat := mantissa.toNat * 2 ^ exponent.toNat

/-- A charge's three bytes: mantissa, then exponent (R182). A negative remaining charge has no stated form (log 10). -/
def chargeBytes (c : Int) : List Byte :=
  if c < 0 then tripleBytes (Config.negativeCharge c)
  else wordBytes (BitVec.ofNat 16 (scaled c.toNat).1) ++ [BitVec.ofNat 8 (scaled c.toNat).2]

/-! ## Fields -/

/-- Bit n for column n (R182). -/
def causesByte (c : Causes) : Byte :=
  BitVec.ofNat 8 (c.cellHigh.toNat + 2 * c.cellLow.toNat + 4 * c.warm.toNat + 8 * c.cold.toNat + 16 * c.stale.toNat
    + 32 * c.link.toNat + 64 * c.imbalance.toNat + 128 * c.hostSet.toNat)

/-- A step address: the bank, then 8 × row + column; the bank byte 255 for none (R182). DESIGN CHOICE (log 38): the
second byte of a step address that is none is 0. -/
def stepBytes (a : Option StepAddr) : List Byte :=
  match a with
  | some a => [BitVec.ofNat 8 a.bank.code, BitVec.ofNat 8 (8 * a.row.val + a.col.val)]
  | none => [255#8, 0#8]

/-- The 20 bytes of a step entry (R183). -/
def entryBytes (e : StepEntry) : List Byte :=
  wordBytes (BitVec.ofInt 16 e.limit) ++ wordBytes (BitVec.ofInt 16 e.ceiling) ++ wordBytes (BitVec.ofInt 16 e.band)
    ++ [BitVec.ofNat 8 e.path.code, BitVec.ofNat 8 e.gate.code, BitVec.ofNat 8 e.permission.code]
    ++ wordBytes (BitVec.ofNat 16 (e.dwell.getD 0))
    ++ [BitVec.ofNat 8 e.selector.code] ++ wordBytes (BitVec.ofInt 16 e.threshold)
    ++ [BitVec.ofNat 8 e.flagRule.code, BitVec.ofNat 8 e.next.code, BitVec.ofNat 8 e.next.operands.1,
        BitVec.ofNat 8 e.next.operands.2.1, BitVec.ofNat 8 e.next.operands.2.2, BitVec.ofNat 8 e.announce.toNat]

/-- The bytes of a field; a mark has none of its own (R182). -/
def Field.bytes : Field → List Byte
  | .byte n => [BitVec.ofNat 8 n]
  | .word i => wordBytes (BitVec.ofInt 16 i)
  | .long i => longBytes (BitVec.ofInt 32 i)
  | .charge c => chargeBytes c
  | .causes c => [causesByte c]
  | .step a => stepBytes a
  | .bank b => [BitVec.ofNat 8 (bankCode b)]
  | .entry (some e) => entryBytes e
  | .entry none => List.replicate 20 0
  | .mark _ => []
  | .raw bs => bs

/-- The mark a field is, if it is one. -/
def Field.markOf : Field → Option Bool
  | .mark b => some b
  | _ => none

/-- A field of the same width with every bit 0: how an absent optional field is sent (R182). -/
def Field.zeroed : Field → Field
  | .byte _ => .byte 0
  | .word _ => .word 0
  | .long _ => .long 0
  | .charge _ => .charge 0
  | .causes _ => .causes Causes.none
  | .step _ => .raw [0, 0]
  | .bank _ => .byte 0
  | .entry _ => .entry none
  | .mark _ => .mark false
  | .raw bs => .raw (List.replicate bs.length 0)

/-- Eight marks in one byte, in order from bit 0 (R182). -/
def markByte (marks : List Bool) : Byte :=
  BitVec.ofNat 8 (marks.foldr (fun b n => 2 * n + b.toNat) 0)

/-- Marks packed eight to a byte (R182), over `n` bytes at most. -/
def packMarks : Nat → List Bool → List Byte
  | 0, _ => []
  | _ + 1, [] => []
  | n + 1, m :: ms => markByte ((m :: ms).take 8) :: packMarks n ((m :: ms).drop 8)

/-- The bytes of a list of fields: each field in order, then the marks packed. DESIGN CHOICE, unsafe (log 8): where the
marks' bytes stand. -/
def encodeFields (fs : List Field) : List Byte :=
  fs.flatMap Field.bytes ++ packMarks fs.length (fs.filterMap Field.markOf)

/-- An optional field with its presence mark (R182). DESIGN CHOICE (log 40): fields that are absent together share one. -/
def optional {α : Type} (o : Option α) (f : α → List Field) (absent : α) : List Field :=
  match o with
  | some a => .mark true :: f a
  | none => .mark false :: (f absent).map Field.zeroed

/-- The hub's reply payload: status, marks byte with the overrun mark in bit 0, echoed sequence, results (R182). -/
def Reply.payload (r : Reply) (overrun : Bool) : List Byte :=
  BitVec.ofNat 8 r.status.code :: BitVec.ofNat 8 overrun.toNat :: r.echo :: encodeFields r.results

/-- An ALERT's payload: the alert-kind byte, then its contents (R183). -/
def Alert.payload (a : Alert) : List Byte := BitVec.ofNat 8 a.kind.code :: encodeFields a.fields

/-- A SETPOINT frame (R181). -/
def setpointFrame (p : Setpoint) (seq : Byte) : Frame :=
  ⟨nodeAddress .s4, hubAddress, kindSetpoint, seq,
    BitVec.ofNat 8 p.mode.code :: wordBytes (BitVec.ofInt 16 p.charge)
      ++ BitVec.ofNat 8 p.dir.code :: wordBytes (BitVec.ofInt 16 p.current)⟩

/-- A BLEED frame to a cell's monitor (R127, R181). -/
def bleedFrame (c : CellId) (on : Bool) (seq : Byte) : Frame :=
  ⟨nodeAddress (monitorOf c), hubAddress, kindBleed, seq, [BitVec.ofNat 8 on.toNat]⟩

end Sys2Proof.Machine
end

