-- ==== Sys2Proof/Machine/Operands.lean ====
section
/-! DEFINITION. The arguments of the processor's commands: their layout in a COMMAND's payload (R183), both ways, and the
checking and normalising of a step entry (R25 to R27). -/

namespace Sys2Proof.Machine

/-- A command to the hub, read from its payload (R161, R183). -/
inductive HubCommand where
  | loadStep (bank row col : Byte) (entry : StepBytes)
  | clearEntry (bank row col : Byte)
  | clearBank (bank : Byte)
  | readStep (bank row col : Byte)
  | loadCell (index : Byte) (value : Word)
  | loadOcv (index : Byte) (voltage soc : Word)
  | loadDerate (index : Byte) (temperature factor : Word)
  | loadGuard (index : Byte) (value : Word)
  | loadLimit (index : Byte) (value : Word)
  | loadBalance (index : Byte) (value : Word)
  | loadRoute (index : Byte) (value : Word)
  | readTable (table index : Byte)
  | lock
  | start (bank row col : Byte)
  | stop
  | swap (bank : Byte) (target : Option (Byte × Byte))
  | goto (row col : Byte)
  | override (code : Byte)
  | hold (code : Option Word)
  | resume (disposition : Byte)
  | resumeStep (row col : Byte)
  | offer (voltage current : Word) (cls : Byte)
  | accept
  | withdraw
  | ship
  | shuttle (cell : Byte) (amount : Option (Word × Byte))
  | bleed (cell setting : Byte)
  | balanceStop
  | setCharge (cell : Byte) (content : ChargeArg)
  | query (selector argument part : Byte)
  /-- A known name whose arguments do not match its layout, or name no table, form or action (R14, R137, R161, R167). -/
  | badArguments
  /-- No name, or a name that is none of R183's (R161). -/
  | unknown
deriving DecidableEq, Repr

/-! ## Writing a payload -/

/-- The 20 bytes of a step entry as LOAD_STEP carries it (R183). -/
def stepEntryBytes (e : StepBytes) : List Byte :=
  [hiByte e.limit, loByte e.limit, hiByte e.ceiling, loByte e.ceiling, hiByte e.band, loByte e.band, e.path, e.gate,
    e.permission, hiByte e.dwell, loByte e.dwell, e.selector, hiByte e.threshold, loByte e.threshold, e.flagRule, e.kind,
    e.q, e.a, e.b, e.announce]

/-- The payload of a COMMAND that carries a command to the hub (R183); the two readings without a layout give none. -/
def encodeCommand : HubCommand → List Byte
  | .loadStep bank row col e => 1 :: bank :: row :: col :: stepEntryBytes e
  | .clearEntry bank row col => [2, bank, row, col]
  | .clearBank bank => [2, bank]
  | .readStep bank row col => [3, bank, row, col]
  | .loadCell i v => [4, 0, i, hiByte v, loByte v]
  | .loadOcv i v s => [4, 1, i, hiByte v, loByte v, hiByte s, loByte s]
  | .loadDerate i t d => [4, 2, i, hiByte t, loByte t, hiByte d, loByte d]
  | .loadGuard i v => [4, 3, i, hiByte v, loByte v]
  | .loadLimit i v => [4, 4, i, hiByte v, loByte v]
  | .loadBalance i v => [4, 5, i, hiByte v, loByte v]
  | .loadRoute i v => [4, 6, i, hiByte v, loByte v]
  | .readTable t i => [5, t, i]
  | .lock => [6]
  | .start bank row col => [7, bank, row, col]
  | .stop => [8]
  | .swap bank none => [9, bank]
  | .swap bank (some (row, col)) => [9, bank, row, col]
  | .goto row col => [10, row, col]
  | .override code => [11, code]
  | .hold none => [12]
  | .hold (some code) => [12, hiByte code, loByte code]
  | .resume d => [13, d]
  | .resumeStep row col => [13, 3, row, col]
  | .offer v i cls => [14, hiByte v, loByte v, hiByte i, loByte i, cls]
  | .accept => [15]
  | .withdraw => [16]
  | .ship => [17]
  | .shuttle cell none => [18, 0, cell]
  | .shuttle cell (some (m, e)) => [18, 0, cell, hiByte m, loByte m, e]
  | .bleed cell setting => [18, 1, cell, setting]
  | .balanceStop => [18, 2]
  | .setCharge cell (.soc s) => [19, cell, 0, hiByte s, loByte s]
  | .setCharge cell (.scaled m e) => [19, cell, 1, hiByte m, loByte m, e]
  | .query selector argument part => [20, selector, argument, part]
  | .badArguments => []
  | .unknown => []

/-! ## Reading a payload -/

/-- The arguments of LOAD_STEP (R183). -/
def readLoadStep : List Byte → HubCommand
  | [bank, row, col, l1, l0, c1, c0, b1, b0, path, gate, perm, d1, d0, sel, t1, t0, flag, kind, q, a, b, ann] =>
    .loadStep bank row col
      ⟨wordOf l1 l0, wordOf c1 c0, wordOf b1 b0, path, gate, perm, wordOf d1 d0, sel, wordOf t1 t0, flag, kind, q, a, b,
        ann⟩
  | _ => .badArguments

/-- The arguments of CLEAR_STEP (R183). -/
def readClearStep : List Byte → HubCommand
  | [bank] => .clearBank bank
  | [bank, row, col] => .clearEntry bank row col
  | _ => .badArguments

/-- The arguments of READ_STEP (R183). -/
def readReadStep : List Byte → HubCommand
  | [bank, row, col] => .readStep bank row col
  | _ => .badArguments

/-- The arguments of LOAD_TABLE, by the table named (R167, R183). -/
def readLoadTable : List Byte → HubCommand
  | [table, i, h, l] =>
    if table = 0 then .loadCell i (wordOf h l)
    else if table = 3 then .loadGuard i (wordOf h l)
    else if table = 4 then .loadLimit i (wordOf h l)
    else if table = 5 then .loadBalance i (wordOf h l)
    else if table = 6 then .loadRoute i (wordOf h l)
    else .badArguments
  | [table, i, h, l, h', l'] =>
    if table = 1 then .loadOcv i (wordOf h l) (wordOf h' l')
    else if table = 2 then .loadDerate i (wordOf h l) (wordOf h' l')
    else .badArguments
  | _ => .badArguments

/-- The arguments of READ_TABLE (R183). -/
def readReadTable : List Byte → HubCommand
  | [table, i] => .readTable table i
  | _ => .badArguments

/-- A command with no arguments (R183). -/
def readNothing (c : HubCommand) : List Byte → HubCommand
  | [] => c
  | _ => .badArguments

/-- The arguments of START (R183). -/
def readStart : List Byte → HubCommand
  | [bank, row, col] => .start bank row col
  | _ => .badArguments

/-- The arguments of SWAP (R183). -/
def readSwap : List Byte → HubCommand
  | [bank] => .swap bank none
  | [bank, row, col] => .swap bank (some (row, col))
  | _ => .badArguments

/-- The arguments of GOTO (R183). -/
def readGoto : List Byte → HubCommand
  | [row, col] => .goto row col
  | _ => .badArguments

/-- The argument of OVERRIDE (R183). -/
def readOverride : List Byte → HubCommand
  | [code] => .override code
  | _ => .badArguments

/-- The optional code of HOLD (R183). -/
def readHold : List Byte → HubCommand
  | [] => .hold none
  | [h, l] => .hold (some (wordOf h l))
  | _ => .badArguments

/-- The disposition of RESUME, with a row and a column for STEP alone (R183). -/
def readResume : List Byte → HubCommand
  | [d] => if d = 3 then .badArguments else .resume d
  | [d, row, col] => if d = 3 then .resumeStep row col else .badArguments
  | _ => .badArguments

/-- The arguments of OFFER (R183). -/
def readOffer : List Byte → HubCommand
  | [v1, v0, i1, i0, cls] => .offer (wordOf v1 v0) (wordOf i1 i0) cls
  | _ => .badArguments

/-- The action and arguments of BALANCE (R137, R183). -/
def readBalance : List Byte → HubCommand
  | [action] => if action = 2 then .balanceStop else .badArguments
  | [action, cell] => if action = 0 then .shuttle cell none else .badArguments
  | [action, cell, setting] => if action = 1 then .bleed cell setting else .badArguments
  | [action, cell, m1, m0, e] => if action = 0 then .shuttle cell (some (wordOf m1 m0, e)) else .badArguments
  | _ => .badArguments

/-- The arguments of SET_CHARGE, by its form (R14, R183). -/
def readSetCharge : List Byte → HubCommand
  | [cell, form, h, l] => if form = 0 then .setCharge cell (.soc (wordOf h l)) else .badArguments
  | [cell, form, h, l, e] => if form = 1 then .setCharge cell (.scaled (wordOf h l) e) else .badArguments
  | _ => .badArguments

/-- The arguments of QUERY (R183). -/
def readQuery : List Byte → HubCommand
  | [selector, argument, part] => .query selector argument part
  | _ => .badArguments

/-- A command to the hub from its payload: the name byte, then the arguments (R161, R183). -/
def parseCommand : List Byte → HubCommand
  | [] => .unknown
  | name :: args =>
    if name = 1 then readLoadStep args
    else if name = 2 then readClearStep args
    else if name = 3 then readReadStep args
    else if name = 4 then readLoadTable args
    else if name = 5 then readReadTable args
    else if name = 6 then readNothing .lock args
    else if name = 7 then readStart args
    else if name = 8 then readNothing .stop args
    else if name = 9 then readSwap args
    else if name = 10 then readGoto args
    else if name = 11 then readOverride args
    else if name = 12 then readHold args
    else if name = 13 then readResume args
    else if name = 14 then readOffer args
    else if name = 15 then readNothing .accept args
    else if name = 16 then readNothing .withdraw args
    else if name = 17 then readNothing .ship args
    else if name = 18 then readBalance args
    else if name = 19 then readSetCharge args
    else if name = 20 then readQuery args
    else .unknown

/-- Whether a COMMAND is a RESET of the hub: destination 0 and name 21, whatever follows (R156, R183). -/
def isReset (dest : Address) (payload : List Byte) : Bool := dest = hubAddress && payload.head? = some 21

/-! ## The step entry -/

/-- `x` brought into `lo..hi`. -/
def clampTo (lo hi x : Int) : Int := max lo (min hi x)

/-- A multiple of 25 mA no greater than `x` (00, "Floor"). -/
def roundDown25 (x : Int) : Int := x / Config.currentStep * Config.currentStep

/-- The range a threshold is clamped to, where its selector has a unit (R25). -/
def thresholdRange : Selector → Option (Int × Int)
  | .vhiGe => some (2000, 4800)
  | .vloGe => some (2000, 4800)
  | .vloLt => some (2000, 4800)
  | .ipackLe => some (-16000, 16000)
  | .tmaxGe => some (-400, 1000)
  | .tmaxLt => some (-400, 1000)
  | .dsocGe => some (0, 1000)
  | .socloGe => some (0, 1000)
  | .none => none
  | .offerPending => none
  | .folded => none
  | .inputPresent => none
  | .limited => none

/-- The threshold as stored (R25). -/
def storedThreshold (sel : Selector) (raw : Int) : Int :=
  match thresholdRange sel with
  | some (lo, hi) => clampTo lo hi raw
  | none => 0

/-- The dwell a word carries: 0 means absent (R183). -/
def dwellOf (w : Word) : Option Nat := if w = 0 then none else some w.toNat

/-- The fields of an entry that R27 checks, with the codes read. -/
structure CheckedEntry where
  path       : PathKind
  gate       : Gate
  permission : Permission
  dwell      : Option Nat
  selector   : Selector
  flagRule   : FlagRule
  next       : NextRule
  announce   : Bool
deriving DecidableEq, Repr

/-- The value read, or the number of the field that failed its check. -/
def orField {α : Type} (field : Nat) (o : Option α) : Except Nat α :=
  match o with
  | some a => .ok a
  | none => .error field

/-- The checks of R27, in the order of the fields of R24; an error is the number of the first field that failed (R182).
DESIGN CHOICE (log 14): an UNTIL_D entry without a dwell fails at the dwell, field 7. -/
def checkEntry (e : StepBytes) : Except Nat CheckedEntry :=
  (orField 4 (pathOf e.path)).bind fun path =>
  (orField 5 (gateOf e.gate)).bind fun gate =>
  (orField 6 (permissionOf e.permission)).bind fun permission =>
  (orField 7 (if gate = .untilD ∧ dwellOf e.dwell = none then none else some (dwellOf e.dwell))).bind fun dwell =>
  (orField 8 (selectorOf e.selector)).bind fun selector =>
  (orField 10 (flagRuleOf e.flagRule)).bind fun flagRule =>
  (orField 11 (nextRuleOf e.kind e.q e.a e.b)).bind fun next =>
  (orField 12 (announceOf e.announce)).map fun announce =>
    ⟨path, gate, permission, dwell, selector, flagRule, next, announce⟩

/-- The entry as stored, from a checked entry (R25, R26). -/
def normaliseEntry (e : StepBytes) (c : CheckedEntry) : StepEntry where
  limit := roundDown25 (min 8000 e.limit.toNat)
  ceiling := clampTo 3000 4600 e.ceiling.toNat
  band := clampTo 10 500 e.band.toNat
  path := c.path
  gate := c.gate
  permission := c.permission
  dwell := c.dwell
  selector := c.selector
  threshold := storedThreshold c.selector e.threshold.toInt
  flagRule := c.flagRule
  next := c.next
  announce := c.announce

/-- Whether normalising altered a value the hub acts on (R25). -/
def entryClamped (e : StepBytes) (n : StepEntry) : Bool :=
  n.limit ≠ e.limit.toNat || n.ceiling ≠ e.ceiling.toNat || n.band ≠ e.band.toNat
    || ((thresholdRange n.selector).isSome && n.threshold ≠ e.threshold.toInt)

end Sys2Proof.Machine
end

