-- ==== Sys2Proof/Machine/State.lean ====
section
/-! DEFINITION. The hub's state, grouped by the blocks that own it, its reasons to stop (it has none), and its values
after power-on or RST. -/

namespace Sys2Proof.Machine

/-- The link interface: port D's consecutive-bad count, the two transmit sequence counters, the frames being sent and
the port D transmit queue (R170, R172, R173). -/
structure LinkUnit where
  badCount : Nat
  seqU     : Byte
  seqD     : Byte
  sendingU : Option UpFrame
  sendingD : Option Frame
  queueD   : List Frame
deriving DecidableEq, Repr

/-- The output queues of port U (R178, R179). -/
structure OutputQueues where
  alerts  : List Alert
  replies : List Reply
  forward : List UpFrame
deriving DecidableEq, Repr

/-- The command unit: the command queue, the node-outstanding table, the late-reply counts, the overrun flag and the
discard count (R155 to R165). The six reservations are read off the state they mirror (R160). -/
structure CommandUnit where
  held     : List HeldCommand
  nodes    : PerNode NodeEntry
  late     : PerNode Nat
  overrun  : Bool
  discards : Nat
deriving DecidableEq, Repr

/-- The cell accounting unit: the records, the cell and OCV tables and the last round summary (R1, R2, R15, R16, R22). -/
structure CellUnit where
  records   : PerCell CellRecord
  input     : InputRecord
  table     : Vector Int 5
  ocv       : PointTable 16
  lastRound : Option Summary
deriving DecidableEq, Repr

/-- The step sequencer (R28, R30, R36, R44). -/
structure Sequencer where
  bankA       : Bank
  bankB       : Bank
  designation : Option BankId
  swap        : Option PendingSwap
  stored      : Option StepAddr
  t           : Bool
  d           : Bool
  firstEval   : Bool
  lastTest    : Option Bool
  dwell       : DwellTimer
  goto        : Option (Fin 11 × Fin 8)
  effective   : Option StepAddr
deriving DecidableEq, Repr

/-- The guard unit: its two tables, the lock and the override cause set with its marks (R68, R70, R73, R74). -/
structure GuardUnit where
  table    : Vector Int 8
  limits   : Vector Int 6
  lock     : Bool
  causes   : Causes
  hostReq  : Bool
  linkMark : Bool
  changes  : Nat
deriving DecidableEq, Repr

/-- The path unit's computation, supply and transport state (R87, R90, R100, R104). The outstanding setpoint is the
node-outstanding table's entry for S4. `overdue` is the model's own (log 29): a SETPOINT has timed out since the last STAGE
report taken and the last reset, so a late report may still come. -/
structure PathUnit where
  derate        : PointTable 8
  handOver      : Option HandOver
  computation   : Option Computation
  present       : Bool
  ship          : Bool
  pendingOffer  : Option Offer
  acceptedOffer : Option Offer
  lastSetpoint  : Option SentSetpoint
  slot          : Option Setpoint
  stage         : Option StageRecord
  silent        : Nat
  overdue       : Bool
deriving DecidableEq, Repr

/-- The balance unit (R122, R124). -/
structure BalanceUnit where
  table   : Vector Int 7
  bleeds  : PerCell BleedRecord
  shuttle : Shuttle
deriving DecidableEq, Repr

/-- The hold unit (R142). -/
structure HoldUnit where
  record      : Option HoldRecord
  pendingHold : Option HoldCause
deriving DecidableEq, Repr

/-- The hub. `pending` is the model's own: the commands that wait to be taken, first in, first out. -/
structure State where
  pending : List Instr
  rst     : Bool
  fold    : Bool
  gate    : Bool
  op      : OpState
  link    : LinkUnit
  routes  : Vector RouteEntry 12
  out     : OutputQueues
  cmd     : CommandUnit
  cells   : CellUnit
  seqr    : Sequencer
  guard   : GuardUnit
  path    : PathUnit
  balance : BalanceUnit
  hold    : HoldUnit
deriving DecidableEq, Repr

/-- The faults that stop the hub: none. The manual gives every event of the table an effect: bad frames are dropped and
counted, refused commands are answered, faults of cells and stage are hold causes. -/
inductive Fault where
deriving DecidableEq, Repr

/-- The refusals of the model. -/
inductive Refusal where
  /-- Raised by an arm of `exec` whose command has no meaning yet; no arm raises it. Safe: the model stops. -/
  | notModelled (mnemonic : String)
deriving DecidableEq, Repr

/-- The hub as power-on or RST leaves it, with RST still held (R185 and the reset tables of R1, R2, R15, R16, R22, R28,
R30, R43, R67, R68, R70, R86, R103, R121, R140, R154, R155, R157, R160, R163, R165, R170, R172, R173, R175, R176, R179).
DESIGN CHOICE, unsafe (log 6): the FOLD level before any SAMPLE has shown it. -/
def State.reset : State where
  pending := []
  rst := true
  fold := false
  gate := false
  op := .config
  link := ⟨0, 0, 0, none, none, []⟩
  routes := routeDefaults
  out := ⟨[], [], []⟩
  cmd := ⟨[], ⟨.empty, .empty, .empty, .empty⟩, ⟨0, 0, 0, 0⟩, false, 0⟩
  cells := ⟨⟨cellRecordReset, cellRecordReset⟩, inputRecordReset, cellTableDefaults, emptyPoints 16, none⟩
  seqr :=
    { bankA := emptyBank, bankB := emptyBank, designation := none, swap := none, stored := none, t := false, d := false,
      firstEval := false, lastTest := none, dwell := .noDwell, goto := none, effective := none }
  guard :=
    { table := guardDefaults, limits := limitDefaults, lock := false, causes := Causes.none, hostReq := false,
      linkMark := false, changes := 0 }
  path :=
    { derate := emptyPoints 8, handOver := none, computation := none, present := false, ship := false,
      pendingOffer := none, acceptedOffer := none, lastSetpoint := none, slot := none, stage := none, silent := 0, overdue := false }
  balance := ⟨balanceDefaults, ⟨bleedReset, bleedReset⟩, shuttleReset⟩
  hold := ⟨none, none⟩

end Sys2Proof.Machine
end

