-- ==== Sys2Proof/Machine/Ops.lean ====
section
/-! DEFINITION. The named operations over the hub's records, banks, queues and ports that every block's rules share. -/

namespace Sys2Proof.Machine

/-! ## Records by cell and by node -/

/-- The value of a cell. -/
def PerCell.get {α : Type} (p : PerCell α) : CellId → α
  | .one => p.one
  | .two => p.two

/-- `p` with the value of a cell replaced. -/
def PerCell.set {α : Type} (p : PerCell α) (c : CellId) (a : α) : PerCell α :=
  match c with
  | .one => { p with one := a }
  | .two => { p with two := a }

/-- The value of a node. -/
def PerNode.get {α : Type} (p : PerNode α) : NodeId → α
  | .m1 => p.m1
  | .m2 => p.m2
  | .m3 => p.m3
  | .s4 => p.s4

/-- `p` with the value of a node replaced. -/
def PerNode.set {α : Type} (p : PerNode α) (n : NodeId) (a : α) : PerNode α :=
  match n with
  | .m1 => { p with m1 := a }
  | .m2 => { p with m2 := a }
  | .m3 => { p with m3 := a }
  | .s4 => { p with s4 := a }

/-- The other cell. -/
def otherCell : CellId → CellId
  | .one => .two
  | .two => .one

/-- A count that stops at 255. -/
def bump (n : Nat) : Nat := min 255 (n + 1)

/-- The record of a cell (R1). -/
def State.cell (s : State) (c : CellId) : CellRecord := s.cells.records.get c

/-- `s` with the record of a cell replaced. -/
def State.setCell (s : State) (c : CellId) (r : CellRecord) : State :=
  { s with cells.records := s.cells.records.set c r }

/-! ## Banks -/

/-- The place of (row, column) in a bank: 8 × row + column (R182). -/
def bankIndex (row : Fin 12) (col : Fin 8) : Fin 96 := ⟨8 * row.val + col.val, by omega⟩

/-- A profile row as a row of the bank (R28). -/
def profileRow (q : Fin 11) : Fin 12 := ⟨q.val, by omega⟩

/-- The override row (R29). -/
def overrideRow : Fin 12 := 11

/-- The entry of a bank at (row, column). -/
def bankEntry (b : Bank) (row : Fin 12) (col : Fin 8) : Option StepEntry := b[bankIndex row col]

/-- A bank with the entry at (row, column) replaced. -/
def setBankEntry (b : Bank) (row : Fin 12) (col : Fin 8) (e : Option StepEntry) : Bank := b.set (bankIndex row col) e

/-- The lowest override-row column that is empty, if any (R28, R39). -/
def lowestEmptyColumn (b : Bank) : Option (Fin 8) :=
  [0, 1, 2, 3, 4, 5, 6, 7].find? fun c => (bankEntry b overrideRow c).isNone

/-- A bank is complete when its override row is filled (R28). -/
def bankComplete (b : Bank) : Bool := (lowestEmptyColumn b).isNone

/-- The contents of a bank. -/
def Sequencer.bank (q : Sequencer) : BankId → Bank
  | .a => q.bankA
  | .b => q.bankB

/-- The sequencer with a bank's contents replaced. -/
def Sequencer.setBank (q : Sequencer) (id : BankId) (b : Bank) : Sequencer :=
  match id with
  | .a => { q with bankA := b }
  | .b => { q with bankB := b }

/-- The entry at a step address. -/
def State.entryAt (s : State) (a : StepAddr) : Option StepEntry := bankEntry (s.seqr.bank a.bank) a.row a.col

/-- The active bank: the designated one in RUN and HELD, none in CONFIG (R30). -/
def State.activeBank (s : State) : Option BankId := if s.op = .config then none else s.seqr.designation

/-- The stored step's entry, if a step is stored and filled (R44). -/
def State.storedEntry (s : State) : Option StepEntry := s.seqr.stored.bind s.entryAt

/-! ## Reservations -/

/-- Whether a reservation is held (R160): BANKS while a swap is pending, SHUTTLE while the shuttle is ACTIVE, NODEn while
the node-outstanding table holds an entry for node n. -/
def State.reserved (s : State) : Reservation → Bool
  | .banks => s.seqr.swap.isSome
  | .shuttle => s.balance.shuttle.active
  | .node n => s.cmd.nodes.get n ≠ .empty

/-! ## Port D -/

/-- Hands a frame to port D: it begins at once on an idle transmitter and otherwise waits its turn (R170). -/
def State.handD (s : State) (f : Frame) : State :=
  match s.link.sendingD, s.link.queueD with
  | none, [] => { s with link.sendingD := some f }
  | none, g :: rest => { s with link.sendingD := some g, link.queueD := rest ++ [f] }
  | some _, queue => { s with link.queueD := queue ++ [f] }

/-- Hands port D a frame the hub composed, with port D's sequence counter, which advances (R173). -/
def State.composeD (s : State) (mk : Byte → Frame) : State :=
  State.handD { s with link.seqD := s.link.seqD + 1 } (mk s.link.seqD)

/-! ## The output queues -/

/-- An alert of a kind already queued replaces its contents and keeps its place; another is appended (R179). -/
def putAlert (a : Alert) : List Alert → List Alert
  | [] => [a]
  | x :: xs => if x.kind = a.kind then a :: xs else x :: putAlert a xs

/-- Queues an alert (R179). -/
def State.alert (s : State) (kind : AlertKind) (fields : List Field) : State :=
  { s with out.alerts := putAlert ⟨kind, fields⟩ s.out.alerts }

/-- A forwarded SAMPLE or INPUT (R178). -/
def UpFrame.measured (u : UpFrame) : Bool := u.frame.kind = kindSample || u.frame.kind = kindInput

/-- A forwarded node REPLY (R178). -/
def UpFrame.nodeReply (u : UpFrame) : Bool := u.frame.kind = kindReply

/-- The forward queue with one frame discarded: the oldest SAMPLE or INPUT, else the oldest frame that is not a node
REPLY (R178). -/
def discardOne (q : List UpFrame) : List UpFrame :=
  if q.any UpFrame.measured then q.eraseP UpFrame.measured else q.eraseP fun u => !u.nodeReply

/-- Places a frame in the forward queue, which makes room first when it is full (R178). -/
def State.placeForward (s : State) (u : UpFrame) : State :=
  { s with
    out.forward :=
      (if s.out.forward.length < Config.forwardMax then s.out.forward else discardOne s.out.forward) ++ [u] }

/-! ## Held commands and replies -/

/-- `s` with the command queue replaced. -/
def State.withHeld (s : State) (held : List HeldCommand) : State := { s with cmd.held := held }

/-- `s` with the held command at a place changed. -/
def State.updateHeld (s : State) (place : Nat) (f : HeldCommand → HeldCommand) : State :=
  s.withHeld (s.cmd.held.map fun c => if c.place = place then f c else c)

/-- A held command that has its reply: REPLIED, its wait timer discarded (R155, R159). -/
def HeldCommand.replied (c : HeldCommand) : HeldCommand := { c with state := .replied, wait := none }

/-- Composes a hub reply to the held command at a place, and makes the command REPLIED (R161, R162). -/
def State.answerAt (s : State) (place : Nat) (echo : Byte) (status : Status) (results : List Field) : State :=
  { s.updateHeld place HeldCommand.replied with
    out.replies := s.out.replies ++ [⟨some place, status, echo, results⟩] }

/-- Answers a held command (R161). -/
def State.answer (s : State) (c : HeldCommand) (status : Status) (results : List Field) : State :=
  s.answerAt c.place c.seq status results

/-- OK, or CLAMPED where a value was altered (R162). -/
def okOr (clamped : Bool) : Status := if clamped then .clamped else .ok

/-- The head: the oldest held command in WAITING (R155). -/
def State.head (s : State) : Option HeldCommand := s.cmd.held.find? fun c => c.state = .waiting

/-! ## Commands to the nodes -/

/-- A held command in AT_NODE (R155). -/
def HeldCommand.forwarded (c : HeldCommand) : HeldCommand := { c with state := .atNode, wait := none }

/-- The COMMAND frame of a held command, as it was received. -/
def HeldCommand.frame (c : HeldCommand) : Frame := ⟨c.dest, c.src, kindCommand, c.seq, c.payload⟩

/-- A node command forwarded as received, taking the node's entry (R163, R164). -/
def State.forwardCommand (s : State) (c : HeldCommand) (n : NodeId) : State :=
  let s1 := (s.updateHeld c.place HeldCommand.forwarded).handD c.frame
  { s1 with cmd.nodes := s1.cmd.nodes.set n (.command c.place c.seq 0) }

/-- NODEn is free: the head, where it is addressed to node n, issues and takes it; the commands behind the head are examined
at the event's end (R119, R158, log 30). -/
def State.forwardHead (s : State) (n : NodeId) : State :=
  match s.head with
  | none => s
  | some c => if nodeOf c.dest = some n then s.forwardCommand c n else s

/-! ## The port U arbiter -/

/-- The port U arbiter, with the transmitter idle: the first alert, else the first reply, else the first forwarded frame
(R180). The frame taken leaves its queue; a frame the hub composed takes port U's sequence number (R173); a hub reply's
overrun mark is written from the overrun flag, which is then cleared (R157). -/
def State.arbitrate (s : State) : State :=
  match s.link.sendingU with
  | some _ => s
  | none =>
    match s.out.alerts, s.out.replies, s.out.forward with
    | a :: rest, _, _ =>
      { s with
        out.alerts := rest
        link.seqU := s.link.seqU + 1
        link.sendingU := some ⟨⟨processorAddress, hubAddress, kindAlert, s.link.seqU, a.payload⟩, none⟩ }
    | [], r :: rest, _ =>
      { s with
        out.replies := rest
        cmd.overrun := false
        link.seqU := s.link.seqU + 1
        link.sendingU :=
          some ⟨⟨processorAddress, hubAddress, kindReply, s.link.seqU, r.payload s.cmd.overrun⟩, r.answers⟩ }
    | [], [], u :: rest => { s with out.forward := rest, link.sendingU := some u }
    | [], [], [] => s

end Sys2Proof.Machine
end

