-- ==== Sys2Proof/Machine/Flags.lean ====
section
/-! DEFINITION. Marks, flags and tests: the tables' valid and relation marks, the figures of a round summary, the step
tests, the flag T and the override cause set. -/

namespace Sys2Proof.Machine

/-! ## Named table entries -/

/-- SOFT_OV (R68). -/
def GuardUnit.softOv (g : GuardUnit) : Int := g.table[0]
/-- SOFT_UV (R68). -/
def GuardUnit.softUv (g : GuardUnit) : Int := g.table[1]
/-- CHG_TMAX (R68). -/
def GuardUnit.chgTmax (g : GuardUnit) : Int := g.table[2]
/-- CHG_TMIN (R68). -/
def GuardUnit.chgTmin (g : GuardUnit) : Int := g.table[3]
/-- IMBAL_V (R68). -/
def GuardUnit.imbalV (g : GuardUnit) : Int := g.table[4]
/-- VIN_MIN (R68). -/
def GuardUnit.vinMin (g : GuardUnit) : Int := g.table[5]
/-- SLEW (R68). -/
def GuardUnit.slew (g : GuardUnit) : Int := g.table[6]
/-- EFF (R68). -/
def GuardUnit.eff (g : GuardUnit) : Int := g.table[7]
/-- HARD_OV (R70). -/
def GuardUnit.hardOv (g : GuardUnit) : Int := g.limits[0]
/-- HARD_UV (R70). -/
def GuardUnit.hardUv (g : GuardUnit) : Int := g.limits[1]
/-- HARD_OT (R70). -/
def GuardUnit.hardOt (g : GuardUnit) : Int := g.limits[2]
/-- HARD_ICHG (R70). -/
def GuardUnit.hardIchg (g : GuardUnit) : Int := g.limits[3]
/-- HINGE_IMAX (R70). -/
def GuardUnit.hingeImax (g : GuardUnit) : Int := g.limits[4]
/-- STALE_MS (R70). -/
def GuardUnit.staleMs (g : GuardUnit) : Nat := g.limits[5].toNat
/-- A cell's capacity in mAh (R15). -/
def CellUnit.capacity (u : CellUnit) : CellId → Nat
  | .one => u.table[0].toNat
  | .two => u.table[1].toNat
/-- REST_I (R15). -/
def CellUnit.restI (u : CellUnit) : Int := u.table[2]
/-- REST_S as milliseconds (R15). -/
def CellUnit.restMs (u : CellUnit) : Nat := 1000 * u.table[3].toNat
/-- OCV_CORR (R15). -/
def CellUnit.ocvCorr (u : CellUnit) : Nat := u.table[4].toNat
/-- A cell's full-charge content (R8). -/
def CellUnit.full (u : CellUnit) (c : CellId) : Nat := u.capacity c * Config.unitsPerMah
/-- The lesser full-charge content of the two cells (R129, R135). -/
def CellUnit.minFull (u : CellUnit) : Nat := min (u.full .one) (u.full .two)
/-- Shuttle start ΔSOC (R122). -/
def BalanceUnit.shuttleStart (b : BalanceUnit) : Int := b.table[0]
/-- Shuttle stop ΔSOC (R122). -/
def BalanceUnit.shuttleStop (b : BalanceUnit) : Int := b.table[1]
/-- Bleed start ΔSOC (R122). -/
def BalanceUnit.bleedStart (b : BalanceUnit) : Int := b.table[2]
/-- Bleed voltage (R122). -/
def BalanceUnit.bleedVoltage (b : BalanceUnit) : Int := b.table[3]
/-- Shuttle current (R122). -/
def BalanceUnit.shuttleCurrent (b : BalanceUnit) : Int := b.table[4]
/-- Shuttle time limit as milliseconds (R122). -/
def BalanceUnit.limitMs (b : BalanceUnit) : Nat := 1000 * b.table[5].toNat
/-- Cooldown as milliseconds (R122). -/
def BalanceUnit.cooldownMs (b : BalanceUnit) : Nat := 1000 * b.table[6].toNat

/-! ## Valid and relation marks -/

/-- Each x is above the one before (R16, R90). -/
def risesStrictly : List Point → Bool
  | p :: q :: rest => p.x < q.x && risesStrictly (q :: rest)
  | _ => true

/-- No y is below the one before (R16). -/
def neverFalls : List Point → Bool
  | p :: q :: rest => p.y ≤ q.y && neverFalls (q :: rest)
  | _ => true

/-- The OCV table with its valid mark recomputed (R16). -/
def ocvMarked (v : Vector Point 16) : PointTable 16 := ⟨v, risesStrictly v.toList && neverFalls v.toList⟩

/-- The derate table with its valid mark recomputed (R90). -/
def derateMarked (v : Vector Point 8) : PointTable 8 := ⟨v, risesStrictly v.toList⟩

/-- The relations mark: which of SOFT_OV < HARD_OV, SOFT_UV > HARD_UV and CHG_TMAX < HARD_OT do not hold (R69). DESIGN CHOICE
(log 33): three marks in that order, each set where its relation fails. -/
def GuardUnit.relations (g : GuardUnit) : List Field :=
  [.mark (!(g.softOv < g.hardOv)), .mark (!(g.softUv > g.hardUv)), .mark (!(g.chgTmax < g.hardOt))]

/-- Whether the three start relations hold (R186). -/
def GuardUnit.related (g : GuardUnit) : Bool := g.softOv < g.hardOv && g.softUv > g.hardUv && g.chgTmax < g.hardOt

/-- The balance table's relation mark: stop ΔSOC below start ΔSOC (R123). -/
def BalanceUnit.related (b : BalanceUnit) : Bool := b.shuttleStop < b.shuttleStart

/-! ## Interpolation -/

/-- A table of points read at `x`: the first y at or below the first point, the last y at or above the last, and between
two points the floored line (R10, R91). -/
def interpolate : List Point → Int → Int
  | [], _ => 0
  | [p], _ => p.y
  | p :: q :: rest, x =>
    if x ≤ p.x then p.y
    else if x ≤ q.x then p.y + (q.y - p.y) * (x - p.x) / (q.x - p.x)
    else interpolate (q :: rest) x

/-! ## Figures of a round summary (R21) -/

/-- The higher cell voltage. -/
def Summary.hi (r : Summary) : Int := max r.v1 r.v2
/-- The lower cell voltage. -/
def Summary.lo (r : Summary) : Int := min r.v1 r.v2
/-- The hotter temperature. -/
def Summary.hot (r : Summary) : Int := max r.t1 r.t2
/-- The colder temperature. -/
def Summary.cold (r : Summary) : Int := min r.t1 r.t2
/-- The SOC difference, SOC1 − SOC2. -/
def Summary.dsoc (r : Summary) : Int := (r.soc1 : Int) - r.soc2
/-- The lower SOC. -/
def Summary.lowerSoc (r : Summary) : Nat := min r.soc1 r.soc2
/-- The magnitude of V1 − V2 (R75). -/
def Summary.dv (r : Summary) : Int := |r.v1 - r.v2|
/-- A cell's voltage. -/
def Summary.voltage (r : Summary) : CellId → Int
  | .one => r.v1
  | .two => r.v2
/-- A cell's lead: its SOC minus the other cell's (R126). -/
def Summary.lead (r : Summary) : CellId → Int
  | .one => r.dsoc
  | .two => -r.dsoc

/-! ## Tests and the flag T -/

/-- The charge current of the last SETPOINT sent: the slew reference (R96), 0 where none was sent (R121). -/
def PathUnit.slewRef (p : PathUnit) : Int := (p.lastSetpoint.map (·.setpoint.charge)).getD 0

/-- The stored step's test (R54, R55). -/
def stepTest (e : StepEntry) (r : Summary) (p : PathUnit) : Bool :=
  match e.selector with
  | .none => false
  | .vhiGe => r.hi ≥ e.threshold
  | .vloGe => r.lo ≥ e.threshold
  | .vloLt => r.lo < e.threshold
  | .ipackLe => r.pack ≤ e.threshold
  | .tmaxGe => r.hot ≥ e.threshold
  | .tmaxLt => r.hot < e.threshold
  | .dsocGe => |r.dsoc| ≥ e.threshold
  | .socloGe => (r.lowerSoc : Int) ≥ e.threshold
  | .offerPending => p.pendingOffer.isSome
  | .folded => r.fold
  | .inputPresent => r.present
  | .limited => p.slewRef < e.limit

/-- T after the update by the entry's flag rule (R56). -/
def updateT (rule : FlagRule) (t firstEval test : Bool) : Bool :=
  match rule with
  | .track => test
  | .sticky => t || test
  | .hold => t
  | .entry => if firstEval then test else t

/-! ## The override cause set -/

/-- Whether a cause is in the set, by its column (R74). -/
def Causes.has (c : Causes) (col : Fin 8) : Bool :=
  match col with
  | 0 => c.cellHigh
  | 1 => c.cellLow
  | 2 => c.warm
  | 3 => c.cold
  | 4 => c.stale
  | 5 => c.link
  | 6 => c.imbalance
  | 7 => c.hostSet

/-- The governing column: the lowest-numbered cause present (R81). -/
def Causes.governing (c : Causes) : Option (Fin 8) := [0, 1, 2, 3, 4, 5, 6, 7].find? c.has

/-- Whether the set is empty. -/
def Causes.isEmpty (c : Causes) : Bool := c = Causes.none

/-- Whether an event-detected cause is in the set. -/
def Causes.hasEvent (c : Causes) : EventCause → Bool
  | .stale => c.stale
  | .link => c.link
  | .hostSet => c.hostSet

/-- The set with an event-detected cause added. -/
def Causes.addEvent (c : Causes) : EventCause → Causes
  | .stale => { c with stale := true }
  | .link => { c with link := true }
  | .hostSet => { c with hostSet := true }

/-- A round-detected cause with its hysteresis band (R75). -/
def hysteresis (set clear now : Bool) : Bool := if set then true else if clear then false else now

/-- The round-detected causes updated from a summary (R75). -/
def GuardUnit.roundCauses (g : GuardUnit) (r : Summary) (c : Causes) : Causes :=
  { c with
    cellHigh := hysteresis (r.hi ≥ g.softOv) (r.hi < g.softOv - Config.hysteresis) c.cellHigh
    cellLow := hysteresis (r.lo < g.softUv) (r.lo ≥ g.softUv + Config.hysteresis) c.cellLow
    warm := hysteresis (r.hot ≥ g.chgTmax) (r.hot < g.chgTmax - Config.hysteresis) c.warm
    cold := hysteresis (r.cold < g.chgTmin) (r.cold ≥ g.chgTmin + Config.hysteresis) c.cold
    imbalance := hysteresis (r.dv ≥ g.imbalV) (r.dv < g.imbalV - Config.hysteresis) c.imbalance }

/-- The event-detected causes whose conditions have gone are cleared (R76). -/
def clearEvents (bothFresh linkMark hostReq : Bool) (c : Causes) : Causes :=
  { c with stale := c.stale && !bothFresh, link := c.link && linkMark, hostSet := c.hostSet && hostReq }

end Sys2Proof.Machine
end

