-- ==== Sys2Proof/Machine/Compute.lean ====
section
/-! DEFINITION. Charge current arithmetic: the computation of the path unit, stage by stage (R87 to R101). -/

namespace Sys2Proof.Machine

/-- Thermal stage (R91): the derate factor and I_therm. -/
def derateFactor (table : PointTable 8) (tMax : Int) : Int := interpolate table.points.toList tMax

/-- I_therm = floor(I_step × D / 100) (R91). -/
def thermalTerm (iStep factor : Int) : Int := iStep * factor / 100

/-- Taper stage (R92). -/
def taperTerm (iStep ceiling band vHi : Int) : Int :=
  if vHi ≤ ceiling - band then iStep
  else if vHi ≥ ceiling then 0
  else iStep * (ceiling - vHi) / band

/-- The supply a computation budgets against: its source, voltage and current (R93). -/
def PathUnit.supply (p : PathUnit) : Option (BudgetSource × Int × Int) :=
  if p.present then
    match p.acceptedOffer with
    | some o => some (.offer, o.voltage, o.current)
    | none => some (.basic, Config.basicVoltage, Config.basicCurrent)
  else none

/-- System power floor(V_sys × max(I_sys, 0) / 1000), in mW (R21, R94). -/
def InputRecord.power (i : InputRecord) : Int := i.vsys * max i.isys 0 / 1000

/-- The budget of a supply of `v` mV and `i` mA (R94). -/
def budgetOf (v i eff pSys : Int) : Budget :=
  let pBudget := v * i / 1000
  let pAvail := pBudget * eff / 100
  ⟨pBudget, pAvail, pSys, pAvail - pSys⟩

/-- The input stage's budget source and figures (R93, R94). -/
def State.budget (s : State) : BudgetSource × Option Budget :=
  match s.path.supply with
  | none => (.none, none)
  | some (src, v, i) => (src, some (budgetOf v i s.guard.eff s.cells.input.power))

/-- The supplement condition: with a source, P_chg is 0 or less (R94). -/
def supplementOf (b : Option Budget) : Bool :=
  match b with
  | none => false
  | some b => b.pChg ≤ 0

/-- I_in (R94). -/
def inputTerm (b : Option Budget) (vPack : Int) : Int :=
  match b with
  | none => 0
  | some b => if b.pChg ≤ 0 then 0 else b.pChg * 1000 / max vPack Config.packFloor

/-- The least of the five terms before rounding (R95). -/
def leastTerm (therm taper input hinge hard : Int) : Int := min therm (min taper (min input (min hinge hard)))

/-- The first term, in the order THERMAL, TAPER, INPUT, HINGE, HARD, that equals the minimum (R95). -/
def limitingTerm (therm taper input hinge hard : Int) : LimitTerm :=
  let least := leastTerm therm taper input hinge hard
  if therm = least then .thermal
  else if taper = least then .taper
  else if input = least then .input
  else if hinge = least then .hinge
  else .hard

/-- Slew stage (R96). -/
def slewed (raw ref slew : Int) : Int := if raw ≤ ref then raw else min raw (ref + roundDown25 slew)

/-- Whether the gate stage sets the current to 0 (R98). -/
def gateOpen (path : PathKind) (gate : Gate) (t d : Bool) : Bool :=
  match path, gate with
  | .adapter, _ => true
  | .charge, .opened => true
  | .charge, .closed => false
  | .charge, .untilT => t
  | .charge, .untilD => d

/-- Mode stage (R99). -/
def modeOf (present supplement : Bool) (iSet : Int) : Mode :=
  if present = false then .battery
  else if supplement then .supplement
  else if iSet > 0 then .charge
  else .adapter

/-- The computation of a hand-over that holds a summary: the seven stages in order (R88, R91 to R100). -/
def State.fullComputation (s : State) (h : HandOver) (r : Summary) : Computation :=
  let factor := derateFactor s.path.derate r.hot
  let therm := thermalTerm h.limit factor
  let taper := taperTerm h.limit h.ceiling h.band r.hi
  let input := inputTerm s.budget.2 (r.v1 + r.v2)
  let raw := roundDown25 (leastTerm therm taper input s.guard.hingeImax s.guard.hardIchg)
  let slew := slewed raw s.path.slewRef s.guard.slew
  let iSet := if gateOpen h.path h.gate h.t h.d then 0 else slew
  let supplement := supplementOf s.budget.2
  { addr := some h.addr
    column := h.column
    source := s.budget.1
    budget := s.budget.2
    figures := some ⟨factor, therm, taper, input, raw, limitingTerm therm taper input s.guard.hingeImax s.guard.hardIchg⟩
    slewLimited := slew < raw
    gated := gateOpen h.path h.gate h.t h.d && slew > 0
    supplement := supplement
    iSet := iSet
    mode := modeOf s.path.present supplement iSet
    noRound := false }

/-- The no-round computation of a hand-over record that holds no summary, or is empty (R89). DESIGN CHOICE (log 41): with the
record empty the effective step's position and the column are shown as none. -/
def State.noRoundComputation (s : State) (h : Option HandOver) : Computation :=
  let supplement := supplementOf s.budget.2
  { addr := h.map (·.addr)
    column := h.bind (·.column)
    source := s.budget.1
    budget := s.budget.2
    figures := none
    slewLimited := false
    gated := false
    supplement := supplement
    iSet := 0
    mode := modeOf s.path.present supplement 0
    noRound := true }

/-- A computation from the hand-over record as it stands (R88, R89). -/
def State.compute (s : State) : Computation :=
  match s.path.handOver with
  | none => s.noRoundComputation none
  | some h =>
    match h.summary with
    | none => s.noRoundComputation (some h)
    | some r => s.fullComputation h r

end Sys2Proof.Machine
end

