-- ==== Sys2Proof/Machine/Path.lean ====
section
/-! DEFINITION. The power path: composing and sending SETPOINTs, the GATE line, the release of NODE4, and input presence
(R104 to R121). -/

namespace Sys2Proof.Machine

/-- The shuttle direction from a source cell (R124). -/
def directionFrom : Option CellId → ShuttleDir
  | some .one => .oneToTwo
  | some .two => .twoToOne
  | none => .off

/-- The SETPOINT composed in CONFIG or HELD (R107). -/
def State.idleSetpoint (s : State) : Setpoint where
  mode :=
    if s.op = .config ∧ s.path.ship then .ship else if s.path.present then .adapter else .battery
  charge := 0
  dir := .off
  current := 0
  composedIn := s.op

/-- The SETPOINT composed in RUN from a computation's result and the balance unit's shuttle figures (R107, R114). -/
def State.runSetpoint (s : State) (k : Computation) : Setpoint where
  mode := k.mode
  charge := k.iSet
  dir := if s.balance.shuttle.active then directionFrom s.balance.shuttle.source else .off
  current := if s.balance.shuttle.active then s.balance.shuttleCurrent else 0
  composedIn := .run

/-- Sends a SETPOINT on port D: it becomes the outstanding setpoint with its answer timer from 0, the setpoint record is
replaced, and GATE is high exactly if the state is RUN and the frame is CHARGE above 0 (R108, R114, R115, R173). -/
def State.sendSetpoint (s : State) (p : Setpoint) : State :=
  let sent : SentSetpoint := ⟨p, s.link.seqD⟩
  { s.composeD (setpointFrame p) with
    gate := s.op = .run && p.mode = .charge && p.charge > 0
    cmd.nodes := s.cmd.nodes.set .s4 (.setpoint sent 0)
    path.lastSetpoint := some sent }

/-- The transport: sends a composed SETPOINT with NODE4 free, and otherwise places it in the next-setpoint slot, replacing
what was there (R115). -/
def State.transport (s : State) (p : Setpoint) : State :=
  if s.reserved (.node .s4) then { s with path.slot := some p } else s.sendSetpoint p

/-- A setpoint called for at an event that brings no hand-over: a computation in RUN, the state's own form in CONFIG and
HELD (R101, R107, R113). -/
def State.callSetpoint (s : State) : State :=
  if s.op = .run then
    let k := s.compute
    let s' : State := { s with path.computation := some k }
    s'.transport (s'.runSetpoint k)
  else s.transport s.idleSetpoint

/-- Empties a node's entry and releases its reservation. For NODE4 the setpoint in the slot is then sent, ahead of any
waiting command; otherwise the head, if it waits for the node, issues at once and takes it (R116, R119, R158, R164, R165;
log 30). -/
def State.releaseNode (s : State) (n : NodeId) : State :=
  let s' : State := { s with cmd.nodes := s.cmd.nodes.set n .empty }
  match n, s'.path.slot with
  | .s4, some p => State.sendSetpoint { s' with path.slot := none } p
  | _, _ => s'.forwardHead n

/-- The judgement of input presence (R105), with the effects of a change (R106): on loss the offers are cleared, on return
ship mode ends, and either calls for a setpoint. -/
def State.judgePresence (s : State) : State :=
  let present : Bool := s.cells.input.monitor = .fresh && s.cells.input.adapter ≥ s.guard.vinMin
  if present = s.path.present then s
  else if present then State.callSetpoint { s with path.present := true, path.ship := false }
  else State.callSetpoint { s with path.present := false, path.pendingOffer := none, path.acceptedOffer := none }

/-- Promotion: the pending offer becomes the accepted offer (R110). -/
def State.promote (s : State) : State :=
  { s with path.acceptedOffer := s.path.pendingOffer, path.pendingOffer := none }

end Sys2Proof.Machine
end

