-- ==== Sys2Proof/Machine/Balance.lean ====
section
/-! DEFINITION. Balancing: bleed records, the shuttle, the decisions at a hand-over and the counting at a sample (R122 to
R140). -/

namespace Sys2Proof.Machine

/-- A bleed record set ON with an origin, or OFF with origin none (R124). -/
def BleedRecord.setTo (r : BleedRecord) (on : Bool) (origin : Origin) : BleedRecord :=
  { r with on := on, origin := if on then origin else .none }

/-- The settings a record changes to in an event that takes it from `old` through `mid` to `new`. -/
def bleedChanges (old mid new : BleedRecord) : List Bool :=
  (if mid.on = old.on then [] else [mid.on]) ++ (if new.on = mid.on then [] else [new.on])

/-- Sends BLEED frames to a cell's monitor (R127). -/
def State.sendBleeds (s : State) (c : CellId) (settings : List Bool) : State :=
  settings.foldl (fun t on => t.composeD (bleedFrame c on)) s

/-- The bleed records of one event, changed in up to two steps: each change sends its BLEED frame, cell 1's first
(R127). -/
def State.putBleeds (s : State) (mid new : PerCell BleedRecord) : State :=
  let s1 := s.sendBleeds .one (bleedChanges s.balance.bleeds.one mid.one new.one)
  let s2 := s1.sendBleeds .two (bleedChanges s.balance.bleeds.two mid.two new.two)
  { s2 with balance.bleeds := new }

/-- Both bleed records OFF. -/
def BalanceUnit.bothOff (b : BalanceUnit) : PerCell BleedRecord :=
  ⟨b.bleeds.one.setTo false .none, b.bleeds.two.setTo false .none⟩

/-- Sets each bleed record that is ON to OFF (R127). -/
def State.bleedsOff (s : State) : State := s.putBleeds s.balance.bothOff s.balance.bothOff

/-- Whether any bleed record is ON. -/
def State.anyBleed (s : State) : Bool := s.balance.bleeds.one.on || s.balance.bleeds.two.on

/-- A cooldown of the table's length; 0 expires at once (R133, R134). -/
def BalanceUnit.cooldownLoad (b : BalanceUnit) : Option Nat := if b.cooldownMs = 0 then none else some b.cooldownMs

/-- The number of a cell, 0 where there is none. -/
def cellCode (c : Option CellId) : Nat := (c.map cellNumber).getD 0

/-- The contents of a BALANCE alert (R139). -/
def State.balanceAlert (s : State) (why : EndReason) : List Field :=
  let x := s.balance.shuttle
  [.byte why.code, .byte why.subCode, .byte x.origin.code, .byte (cellCode x.source), .charge x.amount,
    .charge x.transferred, .long x.elapsed, .word s.cells.records.one.soc, .word s.cells.records.two.soc,
    .step s.seqr.stored, .byte s.op.code]

/-- The end of an ACTIVE shuttle: IDLE, its time-limit timer stopped, the reason and the transferred charge recorded, the
cooldown loaded and a BALANCE alert queued (R133). An IDLE shuttle is left as it is. -/
def State.endShuttle (s : State) (why : EndReason) : State :=
  let x := s.balance.shuttle
  if x.active then
    State.alert
      { s with
        balance.shuttle :=
          { x with active := false, endReason := why, lastTransferred := x.transferred,
                   cooldown := s.balance.cooldownLoad } }
      .balance (s.balanceAlert why)
  else s

/-- The start of a shuttle (R129). -/
def State.startShuttle (s : State) (origin : Origin) (source : CellId) (lead : Int) (amount : Nat) : State :=
  { s with
    balance.shuttle :=
      { s.balance.shuttle with
        active := true, origin := origin, source := some source, lead := lead, amount := amount, remaining := amount,
        transferred := 0, elapsed := 0, length := s.balance.limitMs } }

/-- The amount of a transfer sized at half the SOC difference against the smaller cell (R129, R135). -/
def shuttleAmount (dsoc : Int) (minFull : Nat) : Nat := dsoc.natAbs * minFull / 2000

/-- The cell with the greater SOC in a summary. -/
def Summary.fuller (r : Summary) : CellId := if r.soc1 ≥ r.soc2 then .one else .two

/-! ## Decisions at a hand-over -/

/-- Whether the reversal check ends a shuttle: it started from a lead above 0, and the source's lead is now below 0 and at
or below minus the stop ΔSOC (R131). -/
def reversed (x : Shuttle) (r : Summary) (stop : Int) : Bool :=
  match x.source with
  | some c => x.lead > 0 && r.lead c < 0 && r.lead c ≤ -stop
  | none => false

/-- The end checks of an ACTIVE shuttle: reversal, then permission lost (R131). -/
def State.endChecks (s : State) (r : Summary) (perm : Permission) : State :=
  let x := s.balance.shuttle
  if x.active then
    if reversed x r s.balance.shuttleStop then s.endShuttle .done
    else if x.origin = .auto ∧ perm ≠ .shuttle ∧ perm ≠ .any then s.endShuttle (.aborted .permission)
    else s
  else s

/-- The automatic start check, with the shuttle IDLE: whether a start is called for (R129). -/
def State.startCalled (s : State) (r : Summary) (perm : Permission) : Bool :=
  (perm = .shuttle || perm = .any) && s.balance.shuttle.cooldown.isNone
    && !(s.balance.bleeds.one.on && s.balance.bleeds.one.origin = .host)
    && !(s.balance.bleeds.two.on && s.balance.bleeds.two.origin = .host)
    && |r.dsoc| ≥ s.balance.shuttleStart

/-- A start called for: deferred while a bleed is ON, which is set OFF; otherwise the shuttle starts (R129). -/
def State.autoStart (s : State) (r : Summary) : State :=
  if s.anyBleed then s.bleedsOff
  else s.startShuttle .auto r.fuller (r.lead r.fuller) (shuttleAmount r.dsoc s.cells.minFull)

/-- Whether the bleed decision's conditions of permission, mode and voltage hold for a cell (R126). -/
def State.bleedAllowed (s : State) (r : Summary) (perm : Permission) (mode : Mode) (c : CellId) : Bool :=
  (perm = .bleed || perm = .any) && mode = .charge && r.voltage c ≥ s.balance.bleedVoltage

/-- A cell's record after switching an AUTO bleed off (R126). -/
def State.bleedStopped (s : State) (r : Summary) (perm : Permission) (mode : Mode) (c : CellId) : BleedRecord :=
  let b := s.balance.bleeds.get c
  if b.on ∧ b.origin = .auto ∧ (s.bleedAllowed r perm mode c = false ∨ r.lead c ≤ s.balance.shuttleStop) then
    b.setTo false .none
  else b

/-- Both records after the switching off, and the cell then switched on, when none is ON (R126). -/
def State.bleedStarted (s : State) (r : Summary) (perm : Permission) (mode : Mode) (mid : PerCell BleedRecord) :
    PerCell BleedRecord :=
  let c := r.fuller
  if mid.one.on = false ∧ mid.two.on = false ∧ r.soc1 ≠ r.soc2 ∧ s.bleedAllowed r perm mode c
      ∧ r.lead c ≥ s.balance.bleedStart then
    mid.set c ((mid.get c).setTo true .auto)
  else mid

/-- The bleed decision (R126). -/
def State.bleedDecision (s : State) (r : Summary) (perm : Permission) (mode : Mode) : State :=
  let mid : PerCell BleedRecord := ⟨s.bleedStopped r perm mode .one, s.bleedStopped r perm mode .two⟩
  s.putBleeds mid (s.bleedStarted r perm mode mid)

/-- The balance unit's decisions at a hand-over, with the mode the computation produced at it (R125). -/
def State.balanceDecision (s : State) (r : Summary) (perm : Permission) (isOverride : Bool) (mode : Mode) : State :=
  let s0 : State :=
    { s with balance.shuttle := { s.balance.shuttle with permission := some perm, overrideMark := isOverride } }
  if isOverride then (s0.endShuttle (.aborted .override)).bleedsOff
  else
    let s1 := s0.endChecks r perm
    if s1.balance.shuttle.active then s1
    else if s1.startCalled r perm then s1.autoStart r
    else s1.bleedDecision r perm mode

/-! ## At a sample -/

/-- The charge a sample of the source cell counts: |B| × interval (R130). -/
def sampleCharge (balance : Int) (interval : Nat) : Nat := balance.natAbs * interval

/-- Counting the shuttle's charge at an accepted sample of its source cell; remaining at 0 or below ends it DONE, which in
RUN calls for a setpoint (R113, R130, R133). -/
def State.countShuttle (s : State) (c : CellId) (interval : Nat) (balance : Int) : State :=
  let x := s.balance.shuttle
  if x.active ∧ x.source = some c then
    let q := sampleCharge balance interval
    let s' : State :=
      { s with balance.shuttle := { x with transferred := x.transferred + q, remaining := x.remaining - q } }
    if s'.balance.shuttle.remaining ≤ 0 then
      let s'' := s'.endShuttle .done
      if s''.op = .run then s''.callSetpoint else s''
    else s'
  else s

/-- The comparison of a monitor's bleeding flag with its bleed record: a disagreement repeats the BLEED frame and counts
(R127). -/
def State.compareBleed (s : State) (c : CellId) (bleeding : Bool) : State :=
  let r := s.balance.bleeds.get c
  if bleeding = r.on then s
  else
    { s.composeD (bleedFrame c r.on) with
      balance.bleeds := s.balance.bleeds.set c { r with disagreements := bump r.disagreements } }

/-- Leaving RUN ends an ACTIVE shuttle and sets each bleed OFF (R138). -/
def State.endBalancing (s : State) (why : AbortReason) : State := (s.endShuttle (.aborted why)).bleedsOff

end Sys2Proof.Machine
end

