-- ==== Sys2Proof/Machine/Guard.lean ====
section
/-! DEFINITION. The override cause set's changes and alerts, entering a step fresh and the dwell timer's running (R45, R57,
R74, R83). -/

namespace Sys2Proof.Machine

/-- A column code, none 255 (R183). -/
def columnCode (c : Option (Fin 8)) : Nat := (c.map Fin.val).getD 255

/-- The figures of a summary an OVERRIDE alert carries for a ROUND change (R83). -/
def Summary.causeFigures (r : Summary) : List Field :=
  [.word r.hi, .word r.lo, .word r.hot, .word r.cold, .word r.dv]

/-- A summary of zeros, for the width of an absent one. -/
def Summary.zero : Summary := ⟨0, 0, 0, 0, 0, 0, 0, false, false, 0⟩

/-- A change of the override cause set: the change count advances, 255 returning to 0, and an OVERRIDE alert is queued;
a set that does not change does nothing (R74, R83). DESIGN CHOICE (log 40): the alert's five round figures share one presence
mark, and are zeros where the source is not ROUND. -/
def State.changeCauses (s : State) (source : CauseSource) (new : Causes) (round : Option Summary) : State :=
  if new = s.guard.causes then s
  else
    let count := (s.guard.changes + 1) % 256
    State.alert { s with guard.causes := new, guard.changes := count } .override
      ([.byte count, .causes s.guard.causes, .causes new, .byte (columnCode new.governing), .byte source.code]
        ++ optional round Summary.causeFigures Summary.zero
        ++ [.step s.seqr.stored, .byte s.op.code])

/-- The dwell timer runs while the state is RUN and the set is empty, and is paused otherwise; a timer without a dwell, or
expired, stays so (R57). -/
def State.dwellSync (s : State) : State :=
  match s.seqr.dwell with
  | .noDwell => s
  | .expired => s
  | .running ms => if s.op = .run ∧ s.guard.causes.isEmpty then s else { s with seqr.dwell := .paused ms }
  | .paused ms => if s.op = .run ∧ s.guard.causes.isEmpty then { s with seqr.dwell := .running ms } else s

/-- The dwell timer's remaining time while it runs or is paused. -/
def DwellTimer.left : DwellTimer → Option Nat
  | .running ms => some ms
  | .paused ms => some ms
  | .noDwell => none
  | .expired => none

/-- Enters a step fresh (R45). -/
def State.enterFresh (s : State) (a : StepAddr) : State :=
  State.dwellSync
    { s with
      seqr.stored := some a
      seqr.t := false
      seqr.d := false
      seqr.firstEval := true
      seqr.lastTest := none
      seqr.dwell :=
        (match (s.entryAt a).bind (·.dwell) with
         | some d => .paused (1000 * d)
         | none => .noDwell) }

end Sys2Proof.Machine
end

