-- ==== Sys2Proof/Machine/Hold.lean ====
section
/-! DEFINITION. Hold causes and entry into HELD (R141 to R148), and the end of a pending swap (R40, R42). -/

namespace Sys2Proof.Machine

/-- The trapped value's field with its presence mark (R142, R182). -/
def TrapValue.fields : TrapValue → List Field
  | .absent => [.mark false, .word 0]
  | .measured v => [.mark true, .word v]
  | .number b => [.mark true, .word b.toNat]
  | .code w => [.mark true, .word w.toNat]
  | .address a => [.mark true, .step (some a)]

/-- A hold cause with its trap data as fields (R141, R182). -/
def HoldCause.fields (c : HoldCause) : List Field :=
  [.byte c.kind.code, .byte c.source.code] ++ c.value.fields
    ++ [.mark c.seq.isSome, .byte ((c.seq.map BitVec.toNat).getD 0), .mark c.passed]

/-- The hold record as fields, in the order of R142 (R145, R146, R166). DESIGN CHOICE (log 31): the shuttle at entry is its
state byte, then its source cell and remaining charge, zeros with no presence mark where the state is IDLE. -/
def HoldRecord.fields (h : HoldRecord) : List Field :=
  h.cause.fields
    ++ [.step h.stored, .mark h.t, .mark h.d, .mark h.dwellLeft.isSome, .long (h.dwellLeft.getD 0), .causes h.causes,
        .byte (if h.shuttle.isSome then 1 else 0), .byte ((h.shuttle.map fun x => cellNumber x.1).getD 0),
        .charge ((h.shuttle.map (·.2)).getD 0), .mark h.swapCancelled, .mark h.reentry, .mark h.repeated,
        .byte (resolutionCode h.resolution)]

/-- A pending swap is removed and its SWAP answered ABORTED with a reason: HOLD 0, STOP 1 (R40, R42, R183). -/
def State.cancelSwap (s : State) (reason : Nat) : State :=
  match s.seqr.swap with
  | none => s
  | some w =>
    State.answerAt { s with seqr.swap := none } w.place w.seq .aborted
      [.bank s.seqr.designation, .step s.seqr.stored, .byte reason]

/-- The shuttle as a hold record shows it (R142). -/
def Shuttle.snapshot (x : Shuttle) : Option (CellId × Int) :=
  if x.active then x.source.map fun c => (c, x.remaining) else none

/-- The hold record of a cause, from the state the cause found (R143). -/
def State.snapshot (s : State) (cause : HoldCause) (reentry : Bool) : HoldRecord where
  cause := cause
  stored := s.seqr.stored
  t := s.seqr.t
  d := s.seqr.d
  dwellLeft := s.seqr.dwell.left
  causes := s.guard.causes
  shuttle := s.balance.shuttle.snapshot
  swapCancelled := s.seqr.swap.isSome
  reentry := reentry
  repeated := false
  resolution := none

/-- Entry into HELD: the record is written from the state as the cause found it, then the effects on the other blocks
follow in the order of R144 (R143 to R145, R65, R87, R108). DEDUCED (log 44): a shuttle that the entry ends calls for no setpoint
of its own, beside the one the change of state calls for. -/
def State.enterHeld (s : State) (cause : HoldCause) (reentry : Bool) : State :=
  let record := s.snapshot cause reentry
  let s1 : State := { s with op := .held, gate := false, hold.record := some record, seqr.goto := none }
  let s2 := s1.dwellSync.cancelSwap 0
  let s3 := s2.endBalancing .hold
  let s4 := State.callSetpoint { s3 with path.handOver := none }
  s4.alert .hold record.fields

/-- A hold cause handed to the hold unit: in RUN it enters HELD (R143); in HELD it becomes the pending hold or, with one
pending, sets the repeat mark (R148); in CONFIG the sources hand nothing (R141). -/
def State.handCause (s : State) (cause : HoldCause) : State :=
  match s.op with
  | .config => s
  | .run => s.enterHeld cause false
  | .held =>
    match s.hold.pendingHold with
    | none => { s with hold.pendingHold := some cause }
    | some _ => { s with hold.record := s.hold.record.map fun h => { h with repeated := true } }

/-- The hold cause EMPTY_STEP with the address of the empty target (R62). -/
def emptyStepCause (a : StepAddr) : HoldCause := ⟨.emptyStep, .sequencer, .address a, none, false⟩

end Sys2Proof.Machine
end

