-- ==== Sys2Proof/Machine/Sequence.lean ====
section
/-! DEFINITION. The step sequencer: moves, the six stages of a round evaluation, the evaluations on the last round, and the
event-detected causes that run one (R38 to R64, R76 to R80, R151). -/

namespace Sys2Proof.Machine

/-! ## Hand-over -/

/-- The hand-over record replaced whole (R52, R87). -/
def State.recordHandOver (s : State) (r : Option Summary) (a : StepAddr) (e : StepEntry) : State :=
  { s with
    path.handOver :=
      some
        { summary := r, addr := a, limit := e.limit, ceiling := e.ceiling, band := e.band, path := e.path, gate := e.gate,
          column := if a.row = overrideRow then some a.col else none, t := s.seqr.t, d := s.seqr.d } }

/-- The hand-over of a summary and an effective step to the path unit and the balance unit: the computation, the balance
decisions with its mode, and then the SETPOINT composed from both (R52, R88, R125). -/
def State.handOver (s : State) (r : Summary) (a : StepAddr) (e : StepEntry) : State :=
  let s1 := s.recordHandOver (some r) a e
  let k := s1.compute
  let s2 : State := { s1 with path.computation := some k }
  let s3 := s2.balanceDecision r e.permission (a.row = overrideRow) k.mode
  s3.transport (s3.runSetpoint k)

/-! ## The effective step -/

/-- The effective step's address: the stored step with the cause set empty, else the active bank's override-row entry at
the governing column (R50, R81). -/
def State.effectiveAddr (s : State) : Option StepAddr :=
  if s.guard.causes.isEmpty then s.seqr.stored
  else
    match s.seqr.designation, s.guard.causes.governing with
    | some bank, some c => some ⟨bank, overrideRow, c⟩
    | _, _ => none

/-- What the effective step's address finds. `noStep` is met by no run (R30, log 16). -/
inductive Resolved where
  | noStep
  | empty (a : StepAddr)
  | found (a : StepAddr) (e : StepEntry)
deriving DecidableEq, Repr

/-- The effective step as stage 4 determines it (R50). -/
def State.resolve (s : State) : Resolved :=
  match s.effectiveAddr with
  | none => .noStep
  | some a =>
    match s.entryAt a with
    | none => .empty a
    | some e => .found a e

/-! ## Next rules -/

/-- The move a next rule asks for (R59). -/
inductive Move where
  | none
  | to (row : Fin 12) (col : Fin 8) (promotes : Bool)
  | switch (row : Fin 12) (col : Fin 8)
deriving DecidableEq, Repr

/-- The move a next rule takes from a stored position, with T and D and the pending offer as they stand (R59, R60). -/
def moveOf (rule : NextRule) (stored : StepAddr) (t d : Bool) (offer : Option Offer) : Move :=
  match rule with
  | .stay => .none
  | .advance => if t then .to stored.row (stored.col + 1) false else .none
  | .onT a => if t then .to stored.row a false else .none
  | .split a b => .to stored.row (if t then a else b) false
  | .onD q a => if d then .to (profileRow q) a false else .none
  | .onTRow q => if t then .to (profileRow q) 0 false else .none
  | .byOffer a =>
    match offer with
    | some o => .to stored.row ⟨a.val + o.cls.val, by omega⟩ true
    | none => .none
  | .home => .to 0 0 false
  | .switch q a => if t then .switch (profileRow q) a else .none

/-- How stage 1 or stage 3 entered a step: the step replaced, the entry-kind code, and the replaced step's last test
result (R51). -/
structure Entered where
  replaced : Option StepAddr
  how      : Nat
  lastTest : Option Bool
deriving DecidableEq, Repr

/-- The outcome of stage 3: the state with how a step was entered, if one was, or a target found empty (R62). -/
inductive StepOutcome where
  | ok (s : State) (entered : Option Entered)
  | blocked (s : State) (target : StepAddr)
deriving DecidableEq, Repr

/-- A move taken from the stored position: to the position itself no move is made (R45); an empty target, or a SWITCH whose
other bank is not complete, blocks it (R60 to R62). -/
def State.takeMove (s : State) (stored : StepAddr) (kind : Nat) (m : Move) : StepOutcome :=
  let entered : Entered := ⟨some stored, kind, s.seqr.lastTest⟩
  match m with
  | .none => .ok s none
  | .to row col promotes =>
    let target : StepAddr := ⟨stored.bank, row, col⟩
    let s' := if promotes then s.promote else s
    if target = stored then .ok s' none
    else if (s.entryAt target).isNone then .blocked s target
    else .ok (s'.enterFresh target) (some entered)
  | .switch row col =>
    let target : StepAddr := ⟨stored.bank.other, row, col⟩
    if bankComplete (s.seqr.bank target.bank) && (s.entryAt target).isSome then
      .ok (State.enterFresh { s with seqr.designation := some target.bank } target) (some entered)
    else .blocked s target

/-- The stored step worked on with the cause set empty and no GOTO pending: its test, T, the first-evaluation mark and its
next rule (R48). -/
def State.workStep (s : State) (r : Summary) (stored : StepAddr) (e : StepEntry) : StepOutcome :=
  let test := stepTest e r s.path
  let s' : State :=
    { s with
      seqr.lastTest := some test
      seqr.t := updateT e.flagRule s.seqr.t s.seqr.firstEval test
      seqr.firstEval := false }
  s'.takeMove stored e.next.code (moveOf e.next stored s'.seqr.t s'.seqr.d s'.path.pendingOffer)

/-- The code of an entry by SWAP (R183). -/
def enteredBySwap : Nat := 9

/-- The code of an entry by GOTO (R183). -/
def enteredByGoto : Nat := 10

/-- A pending GOTO applied and removed (R64). -/
def State.applyGoto (s : State) (q : Fin 11) (col : Fin 8) : StepOutcome :=
  let s' : State := { s with seqr.goto := none }
  match s.seqr.designation with
  | none => .ok s' none
  | some bank =>
    let target : StepAddr := ⟨bank, profileRow q, col⟩
    if (s.entryAt target).isNone then .blocked s' target
    else .ok (s'.enterFresh target) (some ⟨s.seqr.stored, enteredByGoto, none⟩)

/-! ## The six stages -/

/-- A dropped swap: removed, and its SWAP answered BAD_TABLE with what failed, the lowest empty override column or the
empty target step (R39, R42). DESIGN CHOICE (log 26): both stand in the reply, and the one that did not fail is none, 255 for
the column and none for the step. -/
def State.dropSwap (s : State) (w : PendingSwap) (column : Option (Fin 8)) (target : Option StepAddr) : State :=
  State.answerAt { s with seqr.swap := none } w.place w.seq .badTable
    [.bank s.seqr.designation, .step s.seqr.stored, .byte (columnCode column), .step target]

/-- The target step of a swap: the one given, or the stored step's row and column, in the target bank (R38). -/
def State.swapTarget (s : State) (w : PendingSwap) : StepAddr :=
  match w.target, s.seqr.stored with
  | some (q, c), _ => ⟨w.bank, profileRow q, c⟩
  | none, some a => ⟨w.bank, a.row, a.col⟩
  | none, none => ⟨w.bank, 0, 0⟩

/-- An applied swap: the target bank designated, the target entered fresh, a pending GOTO discarded, and the SWAP answered
OK (R38, R42). -/
def State.applySwap (s : State) (w : PendingSwap) (target : StepAddr) : State :=
  let s' : State := { s with seqr.designation := some w.bank, seqr.swap := none, seqr.goto := none }
  State.answerAt (s'.enterFresh target) w.place w.seq .ok
    [.bank (some w.bank), .step (some target), .step (some target), .mark s.seqr.goto.isSome]

/-- Stage 1: a pending swap is applied or dropped (R38, R39, R46). -/
def State.stageSwap (s : State) : State × Option Entered :=
  match s.seqr.swap with
  | none => (s, none)
  | some w =>
    let target := s.swapTarget w
    match lowestEmptyColumn (s.seqr.bank w.bank) with
    | some c => (s.dropSwap w (some c) none, none)
    | none =>
      if (s.entryAt target).isNone then (s.dropSwap w none (some target), none)
      else (s.applySwap w target, some ⟨s.seqr.stored, enteredBySwap, none⟩)

/-- Both cell records FRESH (R76). -/
def State.bothFresh (s : State) : Bool :=
  s.cells.records.one.monitor = .fresh && s.cells.records.two.monitor = .fresh

/-- Stage 2: the cause set updated from the summary, and the dwell timer paused or resumed by it (R46, R47, R75, R76). -/
def State.stageCauses (s : State) (r : Summary) : State :=
  let new := clearEvents s.bothFresh s.guard.linkMark s.guard.hostReq (s.guard.roundCauses r s.guard.causes)
  (s.changeCauses .round new (some r)).dwellSync

/-- Stage 3: a pending GOTO is applied whatever the set; otherwise the stored step is worked on with the set empty
(R48, R49). -/
def State.stageStep (s : State) (r : Summary) : StepOutcome :=
  match s.seqr.goto with
  | some (q, c) => s.applyGoto q c
  | none =>
    if s.guard.causes.isEmpty then
      match s.seqr.stored, s.storedEntry with
      | some a, some e => s.workStep r a e
      | _, _ => .ok s none
    else .ok s none

/-- Stage 5: a STEP alert where a step was entered in this evaluation and is announced (R51). -/
def State.announce (s : State) (r : Summary) (entered : Option Entered) : State :=
  match entered, s.storedEntry with
  | some x, some e =>
    if e.announce then
      s.alert .step
        [.step s.seqr.stored, .step x.replaced, .byte x.how, .byte (testCode x.lastTest), .step s.seqr.effective,
          .word r.hi, .word r.pack, .word r.lowerSoc]
    else s
  | _, _ => s

/-- A round evaluation (R46, R62). -/
def State.roundEvaluation (s : State) (r : Summary) : State :=
  let (s1, bySwap) := s.stageSwap
  match (s1.stageCauses r).stageStep r with
  | .blocked s3 target => s3.handCause (emptyStepCause target)
  | .ok s3 byStep =>
    match s3.resolve with
    | .noStep => s3
    | .empty a => s3.handCause (emptyStepCause a)
    | .found a e =>
      let s4 : State := { s3 with seqr.effective := some a }
      (s4.announce r (byStep.or bySwap)).handOver r a e

/-! ## Evaluations on the last round -/

/-- An evaluation on the last round summary, as an event-detected cause, RESUME and START run it (R53, R80, R151, R187): the
pause of R47, the effective step, and the hand-over where a summary exists. The flag says whether it handed over. -/
def State.evaluateLast (s : State) : State × Bool :=
  let s1 := s.dwellSync
  match s1.resolve with
  | .noStep => (s1, false)
  | .empty a => (s1.handCause (emptyStepCause a), false)
  | .found a e =>
    let s2 : State := { s1 with seqr.effective := some a }
    match s2.cells.lastRound with
    | some r => (s2.handOver r a e, true)
    | none => (s2, false)

/-- The same on entering RUN by START or RESUME: the change of state calls for a setpoint, which the hand-over computes;
where nothing was handed over, the no-round result is composed (R151, R187). -/
def State.evaluateEntry (s : State) : State × Bool :=
  let e := s.evaluateLast
  if e.2 then e else if e.1.op = .run then (e.1.callSetpoint, false) else e

/-- The alert source of an event-detected cause (R83). -/
def EventCause.source : EventCause → CauseSource
  | .stale => .stale
  | .link => .link
  | .hostSet => .host

/-- An event-detected cause's event: in RUN the cause is set if absent and an override evaluation runs; in HELD it is set if
absent; in CONFIG nothing is recorded (R77, R78, R79, R80, R82). -/
def State.eventCause (s : State) (c : EventCause) : State :=
  if s.op = .config ∨ s.guard.causes.hasEvent c then s
  else
    let s' := s.changeCauses c.source (s.guard.causes.addEvent c) none
    if s'.op = .run then s'.evaluateLast.1 else s'

/-- The dwell expiry (R58): D becomes 1 and the timer expired; an UNTIL_D step hands the last round summary to the path
unit, which sends a setpoint. -/
def State.expireDwell (s : State) : State :=
  match s.seqr.dwell with
  | .running _ =>
    let s' : State := { s with seqr.d := true, seqr.dwell := .expired }
    match s'.seqr.stored, s'.storedEntry with
    | some a, some e =>
      if e.gate = .untilD then (s'.recordHandOver s'.cells.lastRound a e).callSetpoint else s'
    | _, _ => s'
  | _ => s

end Sys2Proof.Machine
end

