-- ==== Sys2Proof/Machine/Link.lean ====
section
/-! DEFINITION. The link interface and the route unit: frames found in received bytes, the consecutive-bad count, the pass
decision and the forwarding of node frames (R170 to R178). -/

namespace Sys2Proof.Machine

/-! ## Received bytes -/

/-- What a receiver collected up to an idle gap: the bytes, and whether one had a framing error (R170). -/
structure Burst where
  bytes        : List Byte
  framingError : Bool
deriving DecidableEq, Repr

/-- The good frame in a burst, or none where the burst is bad: a framing error, over 29 bytes, a payload-length field above
24, a byte count that is not 5 plus that field, or a CRC that fails (R171). -/
def Burst.frame (b : Burst) : Option Frame :=
  if b.framingError ∨ b.bytes.length > Config.maxPayload + 5 then none
  else
    match b.bytes with
    | addr :: kind :: seq :: len :: rest =>
      let f : Frame := ⟨addr.extractLsb' 4 4, addr.extractLsb' 0 4, kind, seq, rest.take len.toNat⟩
      if len.toNat > Config.maxPayload ∨ rest.length ≠ len.toNat + 1 then none
      else if rest.drop len.toNat = [crc f.body] then some f
      else none
    | _ => none

/-- The event of a burst on port U (R156, R171, R183). -/
def classifyU (b : Burst) : Instr :=
  match b.frame with
  | none => .portUBadFrame
  | some f =>
    if f.kind = kindCommand then
      if isReset f.dest f.payload then .reset f.seq else .command f.dest f.src f.seq f.payload
    else .otherFrameOnPortU

/-- A SAMPLE payload's fields (R181). -/
def readSample (dest : Address) (seq : Byte) : List Byte → Option SampleFrame
  | [v1, v0, i1, i0, t1, t0, n1, n0, b1, b0, st] =>
    some ⟨dest, seq, wordOf v1 v0, wordOf i1 i0, wordOf t1 t0, wordOf n1 n0, wordOf b1 b0, st⟩
  | _ => none

/-- An INPUT payload's fields (R181). -/
def readInput (dest : Address) (seq : Byte) : List Byte → Option InputFrame
  | [v1, v0, i1, i0, s1, s0, y1, y0, n1, n0] =>
    some ⟨dest, seq, wordOf v1 v0, wordOf i1 i0, wordOf s1 s0, wordOf y1 y0, wordOf n1 n0⟩
  | _ => none

/-- A STAGE payload's fields (R181). -/
def readStage (dest : Address) (seq : Byte) : List Byte → Option StageFrame
  | [a1, a0, mode, shuttle, fault] => some ⟨dest, seq, wordOf a1 a0, mode, shuttle, fault⟩
  | _ => none

/-- The event of a good frame on port D, by its source, kind and payload length (R174). -/
def routedEvent (f : Frame) (fold : Bool) : Instr :=
  match nodeOf f.src with
  | none => .unfitFrame
  | some n =>
    if f.kind = kindReply then .nodeReply n f.dest f.seq f.payload
    else if f.kind = kindSample then
      match n, readSample f.dest f.seq f.payload with
      | .m1, some x => .sample .one x fold
      | .m2, some x => .sample .two x fold
      | _, _ => .unfitFrame
    else if f.kind = kindInput then
      match n, readInput f.dest f.seq f.payload with
      | .m3, some x => .input x
      | _, _ => .unfitFrame
    else if f.kind = kindStage then
      match n, readStage f.dest f.seq f.payload with
      | .s4, some x => .stage x
      | _, _ => .unfitFrame
    else .unfitFrame

/-- The event of a burst on port D, with the level of the FOLD line at it (R171, R172, R174). -/
def classifyD (b : Burst) (fold : Bool) : Instr :=
  match b.frame with
  | none => .portDBadFrame
  | some f => routedEvent f fold

/-- A burst received on port U, put at the back of the queue. -/
def State.receiveU (s : State) (b : Burst) : State := { s with pending := s.pending ++ [classifyU b] }

/-- A burst received on port D, put at the back of the queue. -/
def State.receiveD (s : State) (b : Burst) (fold : Bool) : State := { s with pending := s.pending ++ [classifyD b fold] }

/-! ## The consecutive-bad count -/

/-- A good frame on port D: the count returns to 0, and one that ends a run of four or more is reported, which clears the
link condition mark (R78, R172). -/
def State.goodFrameD (s : State) : State :=
  if s.link.badCount ≥ Config.reportedBadFrame then { s with link.badCount := 0, guard.linkMark := false }
  else { s with link.badCount := 0 }

/-- A bad frame on port D: the count advances, and the fourth is reported, which sets the link condition mark and is the
event of LINK (R78, R172). -/
def State.badFrameD (s : State) : State :=
  let s' : State := { s with link.badCount := bump s.link.badCount }
  if s.link.badCount + 1 = Config.reportedBadFrame then State.eventCause { s' with guard.linkMark := true } .link
  else s'

/-! ## The route unit -/

/-- The route entry of a cell's SAMPLE (R175). -/
def sampleRoute : CellId → Fin 12
  | .one => 0
  | .two => 3

/-- The route entry of M3's INPUT (R175). -/
def inputRoute : Fin 12 := 7

/-- The route entry of S4's STAGE (R175). -/
def stageRoute : Fin 12 := 11

/-- The pass decision on a frame, and the entry with its decimation counter worked (R176). -/
def RouteEntry.decide (e : RouteEntry) : Pass × RouteEntry :=
  match e.pass with
  | .off => (.off, e)
  | _ => if e.counter + 1 ≥ e.n then (e.pass, { e with counter := 0 }) else (.off, { e with counter := e.counter + 1 })

/-- Step 1 of R174 on an entry. -/
def State.routeDecision (s : State) (i : Fin 12) : Pass × State :=
  (s.routes[i].decide.1, { s with routes := s.routes.set i s.routes[i].decide.2 })

/-- Places a node's frame in the forward queue as received, where the decision passes it (R174). -/
def State.forwardPlain (s : State) (p : Pass) (f : Frame) : State :=
  match p with
  | .off => s
  | _ => s.placeForward ⟨f, none⟩

/-- The annotated copy of a SAMPLE: the cell's SOC and scaled charge after the monitor's own payload (R177). -/
def annotate (f : Frame) (r : CellRecord) : Frame :=
  { f with payload := f.payload ++ wordBytes (BitVec.ofNat 16 r.soc) ++ chargeBytes r.charge }

end Sys2Proof.Machine
end

