-- ==== Sys2Proof/Machine/Cells.lean ====
section
/-! DEFINITION. The cell accounting unit: taking in SAMPLE and INPUT frames, counting charge, hard limits and rounds (R3 to
R22). -/

namespace Sys2Proof.Machine

/-! ## The figures of a SAMPLE -/

/-- The monitor fault flag (R181). -/
def sampleFaulty (f : SampleFrame) : Bool := f.status.getLsbD 1

/-- The bleeding flag (R181). -/
def sampleBleeding (f : SampleFrame) : Bool := f.status.getLsbD 0

/-- The sample's voltage in mV, if valid (R5). -/
def sampleMillivolts (f : SampleFrame) : Option Int :=
  if (sampleFaulty f) ∨ f.voltage = 65535 then none else some f.voltage.toNat

/-- The sample's temperature in tenths of a degree, if valid (R5). -/
def sampleTenths (f : SampleFrame) : Option Int :=
  if (sampleFaulty f) ∨ f.temperature = 32768 then none else some f.temperature.toInt

/-- A clean sample: voltage and temperature valid and the fault flag clear (R5). -/
def sampleClean (f : SampleFrame) : Bool := (sampleMillivolts f).isSome && (sampleTenths f).isSome

/-- An interval clamped before any use (R4). -/
def clampInterval (w : Word) : Nat := min w.toNat Config.maxInterval

/-! ## The cell record -/

/-- SOC = floor(Q × 1000 / Q_full), 0 while Q_full is 0 (R8). -/
def socOf (q full : Nat) : Nat := if full = 0 then 0 else q * 1000 / full

/-- A record with its charge content set and SOC recomputed (R8). -/
def CellRecord.withCharge (r : CellRecord) (q full : Nat) : CellRecord := { r with charge := q, soc := socOf q full }

/-- SOC_ocv of a voltage (R10). -/
def CellUnit.socAt (u : CellUnit) (v : Int) : Nat := (interpolate u.ocv.points.toList v).toNat

/-- The measured fields of an accepted sample written into the record (R3, R4, R5). -/
def CellRecord.measure (r : CellRecord) (f : SampleFrame) : CellRecord :=
  { r with
    lastSeq := some f.seq
    voltage := (sampleMillivolts f).or r.voltage
    temperature := (sampleTenths f).or r.temperature
    current := f.current.toInt
    balance := f.balance.toInt
    interval := clampInterval f.interval
    bleeding := (sampleBleeding f)
    fault := (sampleFaulty f) }

/-- A clean sample makes the record FRESH and starts or restarts its staleness timer; another leaves both (R6). -/
def CellRecord.refresh (r : CellRecord) (clean : Bool) (staleMs : Nat) : CellRecord :=
  if clean then { r with monitor := .fresh, staleness := some staleMs } else r

/-- The rest timer restarted and the rested mark cleared (R9, R11, R12). -/
def CellRecord.restartRest (r : CellRecord) (restMs : Nat) : CellRecord := { r with rest := some restMs, rested := false }

/-- A current magnitude above REST_I restarts the rest timer (R11). -/
def CellRecord.disturb (r : CellRecord) (u : CellUnit) : CellRecord :=
  if (r.current.natAbs : Int) > u.restI then r.restartRest u.restMs else r

/-- Integration of the sample's current over its clamped interval, clamped to 0..Q_full (R8). -/
def CellRecord.integrate (r : CellRecord) (full : Nat) : CellRecord :=
  r.withCharge (min ((r.charge : Int) + r.current * r.interval).toNat full) full

/-- The charge content set from an SOC of the OCV table (R9, R12). -/
def CellRecord.setFromSoc (r : CellRecord) (soc full : Nat) : CellRecord := r.withCharge (soc * full / 1000) full

/-- The rest correction of a quiet sample that finds the rested mark set (R12). -/
def CellRecord.restCorrect (r : CellRecord) (u : CellUnit) (c : CellId) (v : Option Int) : CellRecord :=
  match v with
  | none => r
  | some v =>
    if r.rested ∧ (r.current.natAbs : Int) ≤ u.restI ∧ r.known ∧ u.ocv.valid ∧ u.capacity c ≠ 0 then
      let soc := u.socAt v
      let r' := if ((soc : Int) - r.soc).natAbs ≥ u.ocvCorr then r.setFromSoc soc (u.full c) else r
      r'.restartRest u.restMs
    else r

/-- Charge accounting of an accepted sample with a valid voltage `v`, or none: the OCV set in place of the increment where
its conditions hold, else integration and the rest correction (R8, R9, R12). -/
def CellRecord.account (r : CellRecord) (u : CellUnit) (c : CellId) (v : Option Int) : CellRecord :=
  match v with
  | some x =>
    if r.known = false ∧ u.ocv.valid ∧ u.capacity c ≠ 0 then
      { (r.setFromSoc (u.socAt x) (u.full c)).restartRest u.restMs with known := true }
    else (r.integrate (u.full c)).restCorrect u c (some x)
  | none => (r.integrate (u.full c)).restCorrect u c none

/-- The record after R5 to R12 of an accepted sample. -/
def CellRecord.takeSample (r : CellRecord) (u : CellUnit) (c : CellId) (f : SampleFrame) (staleMs : Nat) : CellRecord :=
  ((((r.measure f).refresh (sampleClean f) staleMs).disturb u).account u c (sampleMillivolts f))

/-! ## Hard limits (R17, R18) -/

/-- The hard limits a sample's own valid fields breach, the voltage cause first, each with the value that breached (R17). -/
def GuardUnit.breaches (g : GuardUnit) (v t : Option Int) : List (HoldKind × Int) :=
  (match v with
   | some x => if x ≥ g.hardOv then [(HoldKind.hardOv, x)] else if x < g.hardUv then [(HoldKind.hardUv, x)] else []
   | none => [])
  ++
  (match t with
   | some x => if x ≥ g.hardOt then [(HoldKind.hardOt, x)] else []
   | none => [])

/-- A breach mark with a limit added (R18). -/
def Breach.add (b : Breach) : HoldKind → Breach
  | .hardOv => { b with ov := true }
  | .hardUv => { b with uv := true }
  | .hardOt => { b with ot := true }
  | _ => b

/-- A breach acted on: the breach mark in CONFIG, the hold unit in RUN and HELD (R17, R18). -/
def State.breach (s : State) (c : CellId) (seq : Byte) (passed : Bool) (b : HoldKind × Int) : State :=
  if s.op = .config then
    s.setCell c { s.cell c with breach := (s.cell c).breach.add b.1 }
  else s.handCause ⟨b.1, .cell c, .measured b.2, some seq, passed⟩

/-! ## Rounds (R20 to R22) -/

/-- The round summary of two contributions, cell 1's first (R21). -/
def State.summarise (s : State) (k1 k2 : Contribution) : Summary where
  v1 := k1.voltage
  v2 := k2.voltage
  t1 := k1.temperature
  t2 := k2.temperature
  pack := ((k1.current - k1.balance) + (k2.current - k2.balance)) / 2
  soc1 := s.cells.records.one.soc
  soc2 := s.cells.records.two.soc
  fold := s.fold
  present := s.path.present
  sysPower := s.cells.input.power

/-- Both round-ready marks cleared, with their contributions (R20). -/
def State.clearRound (s : State) : State :=
  { s with
    cells.records :=
      ⟨{ s.cells.records.one with contribution := none }, { s.cells.records.two with contribution := none }⟩ }

/-- A completed round: its summary is stored, the marks are cleared, and in RUN the sequencer evaluates it (R20, R22). -/
def State.completeRound (s : State) (k1 k2 : Contribution) : State :=
  let r := s.summarise k1 k2
  let s' : State := { s.clearRound with cells.lastRound := some r }
  if s'.op = .run then s'.roundEvaluation r else s'

/-- A clean sample's contribution, which stands in its cell's record or completes the round (R20). -/
def State.contribute (s : State) (c : CellId) (k : Contribution) : State :=
  let s' := s.setCell c { s.cell c with contribution := some k }
  match s'.cells.records.one.contribution, s'.cells.records.two.contribution with
  | some k1, some k2 => s'.completeRound k1 k2
  | _, _ => s'

/-! ## Intake -/

/-- A SAMPLE is a duplicate when it repeats the record's last sequence number (R3). -/
def CellRecord.duplicates (r : CellRecord) (seq : Byte) : Bool := r.lastSeq = some seq

/-- A SAMPLE handed to the cell accounting unit; `passed` is the mark that it is also forwarded (R3 to R22). -/
def State.takeSample (s : State) (c : CellId) (f : SampleFrame) (passed : Bool) : State :=
  if (s.cell c).duplicates f.seq then s
  else
    let s1 := s.setCell c ((s.cell c).takeSample s.cells c f s.guard.staleMs)
    let s2 := (s1.guard.breaches (sampleMillivolts f) (sampleTenths f)).foldl (fun t b => t.breach c f.seq passed b) s1
    let s3 := (s2.countShuttle c (clampInterval f.interval) f.balance.toInt).compareBleed c (sampleBleeding f)
    match (sampleMillivolts f), (sampleTenths f) with
    | some v, some t => s3.contribute c ⟨v, t, f.current.toInt, f.balance.toInt⟩
    | _, _ => s3

/-- An INPUT handed to the cell accounting unit: an accepted one writes the input record, makes it FRESH and restarts its
timer, and input presence is judged on it (R3, R4, R7, R105). -/
def State.takeInput (s : State) (f : InputFrame) : State :=
  if s.cells.input.lastSeq = some f.seq then s
  else
    State.judgePresence
      { s with
        cells.input :=
          { monitor := .fresh, staleness := some s.guard.staleMs, lastSeq := some f.seq, adapter := f.adapter.toNat,
            current := f.current.toInt, vsys := f.vsys.toNat, isys := f.isys.toInt,
            interval := clampInterval f.interval } }

/-- Whether a STAGE report is the answer of the outstanding setpoint (R116). DESIGN CHOICE, a free value (log 29): a report
that follows an answer timeout, with no reset between (R169), may be the late report of the setpoint that timed out, which
R120 and the worked case call unsolicited though a later setpoint is outstanding. -/
def State.reportAnswers (s : State) (f : StageFrame) : Bool :=
  match s.cmd.nodes.s4 with
  | .setpoint p ms =>
    !s.path.overdue || !Config.lateReport (stageToFrame f).body (setpointFrame p.setpoint p.seq).body ms
  | _ => false

/-- A STAGE report entered in the stage record, which clears the silent count: an answer frees NODE4 and sends the slot, an
unsolicited report releases nothing (R116). DESIGN CHOICE (log 39): the applied charge current is read unsigned. -/
def State.enterReport (s : State) (f : StageFrame) (answered : Bool) : State :=
  let s' : State :=
    { s with
      path.stage := some ⟨f.applied.toNat, f.mode, f.shuttle, f.fault, f.seq, answered⟩
      path.silent := 0
      path.overdue := false }
  if answered then s'.releaseNode .s4 else s'

/-- A STAGE report handed to the path unit: the answer of the outstanding setpoint or an unsolicited report; then its fault
code is acted on (R116, R118). A late report is marked at `State.reportAnswers` (log 29), the order of NODE4's release and the
hold entry at `State.releaseNode` (log 30). -/
def State.takeStage (s : State) (f : StageFrame) (passed : Bool) : State :=
  let s' := s.enterReport f (s.reportAnswers f)
  if f.fault = 0 then s'
  else s'.handCause ⟨.stageFault, .stage, .number f.fault, some f.seq, passed⟩

/-- A staleness expiry of a running timer: the record goes STALE and its timer stops; a cell is reported to the guard unit,
the input record to the path unit (R6, R7, R77, R105). -/
def State.expireStaleness (s : State) (x : TimedRecord) : State :=
  match x with
  | .cell c =>
    if (s.cell c).staleness.isSome then
      (s.setCell c { s.cell c with monitor := .stale, staleness := none }).eventCause .stale
    else s
  | .input =>
    if s.cells.input.staleness.isSome then
      State.judgePresence { s with cells.input := { s.cells.input with monitor := .stale, staleness := none } }
    else s

/-- A rest timer's expiry: the rested mark is set and the timer stops (R11). -/
def State.expireRest (s : State) (c : CellId) : State :=
  if (s.cell c).rest.isSome then s.setCell c { s.cell c with rest := none, rested := true } else s

end Sys2Proof.Machine
end

