-- ==== Sys2Proof/Machine/Records.lean ====
section
/-! DEFINITION. The records QUERY returns, field by field in the order of the rules that own them (R1, R2, R21, R100, R104,
R124, R142, R155, R160, R163, R166, R182). -/

namespace Sys2Proof.Machine

/-- An optional number as a presence mark and a field. -/
def optionalNat (mk : Nat → Field) (o : Option Nat) : List Field := [.mark o.isSome, mk (o.getD 0)]

/-- An optional signed figure as a presence mark and two bytes. -/
def optionalWord (o : Option Int) : List Field := [.mark o.isSome, .word (o.getD 0)]

/-- An optional sequence number. -/
def optionalSeq (o : Option Byte) : List Field := optionalNat .byte (o.map BitVec.toNat)

/-- A cell record (R1, R166). DESIGN CHOICE: each timer is a running mark and its remaining time in ms, in four bytes
(log 24); the breach set is three marks, OV, UV, OT (log 25); the contribution's four figures share one presence mark
(log 40). -/
def CellRecord.fields (r : CellRecord) : List Field :=
  [.byte r.monitor.code] ++ optionalNat (.long ·) r.staleness ++ optionalSeq r.lastSeq ++ optionalWord r.voltage
    ++ optionalWord r.temperature
    ++ [.word r.current, .word r.balance, .word r.interval, .mark r.bleeding, .mark r.fault, .charge r.charge,
        .word r.soc, .mark r.known]
    ++ optionalNat (.long ·) r.rest
    ++ [.mark r.rested, .mark r.breach.ov, .mark r.breach.uv, .mark r.breach.ot, .mark r.contribution.isSome]
    ++ optional r.contribution (fun k => [.word k.voltage, .word k.temperature, .word k.current, .word k.balance])
        ⟨0, 0, 0, 0⟩

/-- The input record (R2, R166). DESIGN CHOICE (log 24): the staleness timer is a running mark and its remaining time in ms,
in four bytes. -/
def InputRecord.fields (i : InputRecord) : List Field :=
  [.byte i.monitor.code] ++ optionalNat (.long ·) i.staleness ++ optionalSeq i.lastSeq
    ++ [.word i.adapter, .word i.current, .word i.vsys, .word i.isys, .word i.interval]

/-- A hold record of zeros, for the width of an absent one. -/
def HoldRecord.blank : HoldRecord :=
  ⟨⟨.host, .host, .absent, none, false⟩, none, false, false, none, Causes.none, none, false, false, false, none⟩

/-- The hold record and the pending hold (R142). -/
def HoldUnit.fields (h : HoldUnit) : List Field :=
  optional h.record HoldRecord.fields HoldRecord.blank
    ++ optional h.pendingHold HoldCause.fields ⟨.host, .host, .absent, none, false⟩

/-- A bleed record (R124). -/
def BleedRecord.fields (b : BleedRecord) : List Field :=
  [.byte b.on.toNat, .byte b.origin.code, .byte b.disagreements]

/-- The shuttle context (R124); a source cell of none is an absent field (R182). DESIGN CHOICE (log 24): the time-limit timer is
a running mark and its elapsed time in ms, in four bytes; (log 42): the starting lead is sent signed. -/
def Shuttle.fields (x : Shuttle) : List Field :=
  [.byte x.active.toNat, .byte x.origin.code] ++ optionalNat .byte (x.source.map cellNumber)
    ++ [.word x.lead, .charge x.amount, .charge x.remaining, .charge x.transferred, .mark x.active, .long x.elapsed]
    ++ optionalNat (.long ·) x.cooldown
    ++ [.byte x.endReason.code, .byte x.endReason.subCode, .charge x.lastTransferred]
    ++ optionalNat .byte (x.permission.map Permission.code) ++ [.mark x.overrideMark]

/-- Both bleed records, cell 1's first (R136). -/
def BalanceUnit.bleedFields (b : BalanceUnit) : List Field := b.bleeds.one.fields ++ b.bleeds.two.fields

/-- A supply offer (R104, R109). -/
def Offer.fields (o : Offer) : List Field := [.word o.voltage, .word o.current, .byte o.cls.val]

/-- An offer of zeros, for the width of an absent one. -/
def Offer.zero : Offer := ⟨0, 0, 0⟩

/-- What a SETPOINT carries on the wire (R114). -/
def Setpoint.carried (p : Setpoint) : List Field :=
  [.byte p.mode.code, .word p.charge, .byte p.dir.code, .word p.current]

/-- A composed SETPOINT in the slot. DESIGN CHOICE (log 36): with the operating state it was composed in (R114). -/
def Setpoint.fields (p : Setpoint) : List Field := p.carried ++ [.byte p.composedIn.code]

/-- The setpoint record before any was sent: BATTERY, charge 0, shuttle off (R121). -/
def Setpoint.unsent : Setpoint := ⟨.battery, 0, .off, 0, .config⟩

/-- A sent SETPOINT: what it carried, its sequence number and the state it was composed in (R104). -/
def SentSetpoint.fields (p : SentSetpoint) : List Field :=
  p.setpoint.carried ++ [.byte p.seq.toNat, .byte p.setpoint.composedIn.code]

/-- The outstanding setpoint with its answer timer (R104). DESIGN CHOICE (log 28): the timer is the time elapsed of its
40 ms; (log 36): the setpoint is shown with the fields of the setpoint record. -/
def NodeEntry.outstanding : NodeEntry → Option (SentSetpoint × Nat)
  | .setpoint p ms => some (p, ms)
  | .empty => none
  | .command _ _ _ => none

/-- The last STAGE report (R104). -/
def StageRecord.fields (r : StageRecord) : List Field :=
  [.word r.applied, .byte r.mode.toNat, .byte r.shuttle.toNat, .byte r.fault.toNat, .byte r.seq.toNat, .mark r.answered]

/-- The path unit's supply and transport state (R104). DESIGN CHOICE (log 28): the outstanding setpoint's answer timer is
shown as the time elapsed; (log 36): the outstanding setpoint has the fields of the setpoint record and then its timer, and the
slot's setpoint the state it was composed in; (log 40): each offer, setpoint and report has one presence mark. -/
def State.offersFields (s : State) : List Field :=
  [.mark s.path.present, .mark s.path.ship] ++ optional s.path.pendingOffer Offer.fields Offer.zero
    ++ optional s.path.acceptedOffer Offer.fields Offer.zero
    ++ [.mark s.path.lastSetpoint.isSome] ++ (s.path.lastSetpoint.getD ⟨Setpoint.unsent, 0⟩).fields
    ++ optional s.cmd.nodes.s4.outstanding (fun x => x.1.fields ++ [.long x.2]) (⟨Setpoint.unsent, 0⟩, 0)
    ++ optional s.path.slot Setpoint.fields Setpoint.unsent
    ++ optional s.path.stage StageRecord.fields ⟨0, 0, 0, 0, 0, false⟩
    ++ [.byte s.path.silent, .mark s.gate]

/-- A round summary (R21). DESIGN CHOICE (log 42): the SOC difference is sent signed. -/
def Summary.fields (r : Summary) : List Field :=
  [.word r.v1, .word r.v2, .word r.hi, .word r.lo, .word r.t1, .word r.t2, .word r.hot, .word r.cold, .word r.pack,
    .word r.soc1, .word r.soc2, .word r.dsoc, .word r.lowerSoc, .mark r.fold, .mark r.present, .long r.sysPower]

/-- The computation record (R100). DESIGN CHOICE (log 35): an absent override column is 255 with no presence mark; the four
budget figures share one presence mark, and so do the factor, the three terms, I_raw and the limiting term. -/
def Computation.fields (k : Computation) : List Field :=
  [.step k.addr, .byte (columnCode k.column), .byte k.source.code]
    ++ optional k.budget (fun b => [.long b.pBudget, .long b.pAvail, .long b.pSys, .long b.pChg]) ⟨0, 0, 0, 0⟩
    ++ optional k.figures
        (fun f => [.word f.factor, .word f.therm, .word f.taper, .word f.input, .word f.raw, .byte f.limiting.code])
        ⟨0, 0, 0, 0, 0, .thermal⟩
    ++ [.mark k.slewLimited, .mark k.gated, .mark k.supplement, .word k.iSet, .byte k.mode.code, .mark k.noRound]

/-- A computation record of zeros, for the width of an absent one. -/
def Computation.blank : Computation := ⟨none, none, .none, none, none, false, false, false, 0, .battery, false⟩

/-- A held command: its state, destination, name and command sequence (R155). -/
def HeldCommand.fields (c : HeldCommand) : List Field :=
  [.byte c.state.code, .byte c.dest.toNat] ++ optionalSeq c.payload.head? ++ [.byte c.seq.toNat]

/-- An entry of the node-outstanding table: its kind, its sequence number and the time since forwarding (R163, R166).
DESIGN CHOICE (log 32): the kinds are empty 0, command 1 and SETPOINT 2, and an empty entry sends zeros with no presence
mark. -/
def NodeEntry.fields : NodeEntry → List Field
  | .empty => [.byte 0, .byte 0, .long 0]
  | .command _ seq ms => [.byte 1, .byte seq.toNat, .long ms]
  | .setpoint p ms => [.byte 2, .byte p.seq.toNat, .long ms]

/-- The command unit's own state (R166). -/
def State.commandFields (s : State) : List Field :=
  .byte s.cmd.held.length :: s.cmd.held.flatMap HeldCommand.fields
    ++ [.mark (s.reserved .banks), .mark (s.reserved .shuttle), .mark (s.reserved (.node .m1)),
        .mark (s.reserved (.node .m2)), .mark (s.reserved (.node .m3)), .mark (s.reserved (.node .s4))]
    ++ s.cmd.nodes.m1.fields ++ s.cmd.nodes.m2.fields ++ s.cmd.nodes.m3.fields ++ s.cmd.nodes.s4.fields
    ++ [.byte s.cmd.late.m1, .byte s.cmd.late.m2, .byte s.cmd.late.m3, .byte s.cmd.late.s4, .mark s.cmd.overrun,
        .byte s.cmd.discards]

/-- The pending goto as a step address of the active bank (R44). -/
def State.gotoAddr (s : State) : Option StepAddr :=
  match s.seqr.goto, s.seqr.designation with
  | some (q, c), some bank => some ⟨bank, profileRow q, c⟩
  | _, _ => none

/-- The target step of a pending swap, if one was given (R36). -/
def PendingSwap.targetAddr (w : PendingSwap) : Option StepAddr := w.target.map fun x => ⟨w.bank, profileRow x.1, x.2⟩

/-- The status summary (R166). -/
def State.statusFields (s : State) : List Field :=
  [.byte s.op.code, .bank s.seqr.designation, .bank s.activeBank, .bank (s.seqr.swap.map (·.bank)),
    .step (s.seqr.swap.bind PendingSwap.targetAddr), .step s.seqr.stored, .mark s.seqr.t, .mark s.seqr.d,
    .mark s.seqr.firstEval, .byte (testCode s.seqr.lastTest), .byte s.seqr.dwell.code]
    ++ optionalNat (.long ·) s.seqr.dwell.left
    ++ [.step s.gotoAddr, .step s.seqr.effective, .causes s.guard.causes, .mark s.guard.hostReq, .mark s.guard.linkMark,
        .byte s.guard.changes, .mark s.guard.lock]
    ++ [.byte (s.path.lastSetpoint.getD ⟨Setpoint.unsent, 0⟩).setpoint.mode.code, .word s.path.slewRef]
    ++ optional s.path.computation Computation.fields Computation.blank
    ++ optional s.cells.lastRound Summary.fields Summary.zero
    ++ s.commandFields

/-- The record a QUERY selects, by selector and argument; none where it names no record or cell (R166, R183). -/
def State.queryRecord (s : State) (selector argument : Byte) : Option (List Field) :=
  if selector = 0 then some s.statusFields
  else if selector = 1 then (cellOf argument).map fun c => (s.cell c).fields
  else if selector = 2 then some s.cells.input.fields
  else if selector = 3 then some s.hold.fields
  else if selector = 4 then some (s.balance.bleedFields ++ s.balance.shuttle.fields)
  else if selector = 5 then some s.offersFields
  else none

/-- How many parts a record's bytes make (R182). -/
def partCount (bytes : List Byte) : Nat := (bytes.length + (Config.partBytes - 1)) / Config.partBytes

/-- Part p of a record's bytes (R182). -/
def partOf (bytes : List Byte) (p : Nat) : List Byte := (bytes.drop (Config.partBytes * p)).take Config.partBytes

end Sys2Proof.Machine
end

