-- ==== Sys2Proof/Machine/Tables.lean ====
section
/-! DEFINITION. LOAD_TABLE and READ_TABLE, table by table, at their issue (R15, R16, R69, R71, R90, R123, R167, R175). Each
takes the held command it answers. -/

namespace Sys2Proof.Machine

/-! ## Entries -/

/-- The index a byte names in a table of `n` entries. -/
def indexOf (n : Nat) (i : Byte) : Option (Fin n) := if h : i.toNat < n then some ⟨i.toNat, h⟩ else none

/-- A value brought into an entry's range (R68, R70, R122). -/
def clampEntry {n : Nat} (ranges : Vector (Int × Int) n) (i : Fin n) (x : Int) : Int :=
  clampTo ranges[i].1 ranges[i].2 x

/-- A cell table value brought into its entry's range: a capacity is 0 or 500..8000 (R15). -/
def clampCellEntry (i : Fin 5) (x : Int) : Int :=
  match i with
  | 0 => if x = 0 then 0 else clampTo 500 8000 x
  | 1 => if x = 0 then 0 else clampTo 500 8000 x
  | 2 => clampTo 0 500 x
  | 3 => clampTo 60 7200 x
  | 4 => clampTo 1 1000 x

/-- The number a guard table word carries: CHG_TMAX and CHG_TMIN are temperatures, signed (R68, R183). -/
def guardValue (i : Fin 8) (w : Word) : Int := if i = 2 ∨ i = 3 then w.toInt else w.toNat

/-- The number a limit table word carries: HARD_OT is a temperature, signed (R70, R183). -/
def limitValue (i : Fin 6) (w : Word) : Int := if i = 2 then w.toInt else w.toNat

/-- A limit table entry in a reply: STALE_MS is a time in ms, the others take two bytes (R70, R182). -/
def limitField (i : Fin 6) (x : Int) : Field := if i = 5 then .long x else .word x

/-- The limit table's lock and relations mark, which every reply carries (R71). -/
def GuardUnit.limitMarks (g : GuardUnit) : List Field := .mark g.lock :: g.relations

/-! ## The cell table (R15) -/

/-- A cell record whose capacity has changed: Q and SOC 0, not charge-known (R15). -/
def CellRecord.forgetCharge (r : CellRecord) : CellRecord := { r with charge := 0, soc := 0, known := false }

/-- The records after a cell table entry has become `x` (R15). -/
def CellUnit.recordsAfter (u : CellUnit) (i : Fin 5) (x : Int) : PerCell CellRecord :=
  if x = u.table[i] then u.records
  else
    match i with
    | 0 => { u.records with one := u.records.one.forgetCharge }
    | 1 => { u.records with two := u.records.two.forgetCharge }
    | _ => u.records

/-- The cell table with an entry written (R15). -/
def CellUnit.writeEntry (u : CellUnit) (i : Fin 5) (x : Int) : CellUnit :=
  { u with table := u.table.set i x, records := u.recordsAfter i x }

/-- LOAD_TABLE to the cell table (R15). -/
def State.loadCell (s : State) (c : HeldCommand) (i : Byte) (w : Word) : State :=
  match indexOf 5 i with
  | none => s.answer c .badEntry []
  | some k =>
    if s.op = .config then
      let x := clampCellEntry k w.toNat
      State.answer { s with cells := s.cells.writeEntry k x } c (okOr (x ≠ w.toNat)) []
    else s.answer c .state []

/-- READ_TABLE of the cell table (R15). -/
def State.readCell (s : State) (c : HeldCommand) (i : Byte) : State :=
  match indexOf 5 i with
  | none => s.answer c .badEntry []
  | some k => s.answer c .ok [.word s.cells.table[k]]

/-! ## The OCV table (R16) -/

/-- LOAD_TABLE to the OCV table (R16). -/
def State.loadOcv (s : State) (c : HeldCommand) (i : Byte) (v soc : Word) : State :=
  match indexOf 16 i with
  | none => s.answer c .badEntry [.mark s.cells.ocv.valid]
  | some k =>
    if s.op = .config then
      let p : Point := ⟨clampTo 2000 4800 v.toNat, clampTo 0 1000 soc.toNat⟩
      let table := ocvMarked (s.cells.ocv.points.set k p)
      State.answer { s with cells.ocv := table } c (okOr (p.x ≠ v.toNat || p.y ≠ soc.toNat)) [.mark table.valid]
    else s.answer c .state [.mark s.cells.ocv.valid]

/-- READ_TABLE of the OCV table (R16). -/
def State.readOcv (s : State) (c : HeldCommand) (i : Byte) : State :=
  match indexOf 16 i with
  | none => s.answer c .badEntry [.mark s.cells.ocv.valid]
  | some k =>
    s.answer c .ok [.word s.cells.ocv.points[k].x, .word s.cells.ocv.points[k].y, .mark s.cells.ocv.valid]

/-! ## The derate table (R90) -/

/-- LOAD_TABLE to the derate table (R90). -/
def State.loadDerate (s : State) (c : HeldCommand) (i : Byte) (t d : Word) : State :=
  match indexOf 8 i with
  | none => s.answer c .badEntry [.mark s.path.derate.valid]
  | some k =>
    if s.op = .config then
      let p : Point := ⟨clampTo (-400) 1000 t.toInt, clampTo 0 100 d.toNat⟩
      let table := derateMarked (s.path.derate.points.set k p)
      State.answer { s with path.derate := table } c (okOr (p.x ≠ t.toInt || p.y ≠ d.toNat)) [.mark table.valid]
    else s.answer c .state [.mark s.path.derate.valid]

/-- READ_TABLE of the derate table (R90). -/
def State.readDerate (s : State) (c : HeldCommand) (i : Byte) : State :=
  match indexOf 8 i with
  | none => s.answer c .badEntry [.mark s.path.derate.valid]
  | some k =>
    s.answer c .ok [.word s.path.derate.points[k].x, .word s.path.derate.points[k].y, .mark s.path.derate.valid]

/-! ## The guard table (R68, R69) -/

/-- LOAD_TABLE to the guard table (R69). -/
def State.loadGuard (s : State) (c : HeldCommand) (i : Byte) (w : Word) : State :=
  match indexOf 8 i with
  | none => s.answer c .badEntry []
  | some k =>
    if s.op = .config then
      let x := clampEntry guardRanges k (guardValue k w)
      let g : GuardUnit := { s.guard with table := s.guard.table.set k x }
      State.answer { s with guard := g } c (okOr (x ≠ guardValue k w)) (.word x :: g.relations)
    else s.answer c .state []

/-- READ_TABLE of the guard table (R69). -/
def State.readGuard (s : State) (c : HeldCommand) (i : Byte) : State :=
  match indexOf 8 i with
  | none => s.answer c .badEntry []
  | some k => s.answer c .ok (.word s.guard.table[k] :: s.guard.relations)

/-! ## The limit table (R70, R71) -/

/-- LOAD_TABLE to the limit table: written in CONFIG with the lock clear, and in HELD (R71). -/
def State.loadLimit (s : State) (c : HeldCommand) (i : Byte) (w : Word) : State :=
  match indexOf 6 i with
  | none => s.answer c .badEntry s.guard.limitMarks
  | some k =>
    if s.op = .run then s.answer c .state s.guard.limitMarks
    else if s.op = .config ∧ s.guard.lock then s.answer c .locked s.guard.limitMarks
    else
      let x := clampEntry limitRanges k (limitValue k w)
      let g : GuardUnit := { s.guard with limits := s.guard.limits.set k x }
      State.answer { s with guard := g } c (okOr (x ≠ limitValue k w)) (limitField k x :: g.limitMarks)

/-- READ_TABLE of the limit table (R71). -/
def State.readLimit (s : State) (c : HeldCommand) (i : Byte) : State :=
  match indexOf 6 i with
  | none => s.answer c .badEntry s.guard.limitMarks
  | some k => s.answer c .ok (limitField k s.guard.limits[k] :: s.guard.limitMarks)

/-! ## The balance table (R122, R123) -/

/-- LOAD_TABLE to the balance table (R123). -/
def State.loadBalance (s : State) (c : HeldCommand) (i : Byte) (w : Word) : State :=
  match indexOf 7 i with
  | none => s.answer c .badEntry [.mark s.balance.related]
  | some k =>
    if s.op = .config then
      let x := clampEntry balanceRanges k w.toNat
      let b : BalanceUnit := { s.balance with table := s.balance.table.set k x }
      State.answer { s with balance := b } c (okOr (x ≠ w.toNat)) [.word x, .mark b.related]
    else s.answer c .state [.word s.balance.table[k], .mark s.balance.related]

/-- READ_TABLE of the balance table (R123). -/
def State.readBalance (s : State) (c : HeldCommand) (i : Byte) : State :=
  match indexOf 7 i with
  | none => s.answer c .badEntry [.mark s.balance.related]
  | some k => s.answer c .ok [.word s.balance.table[k], .mark s.balance.related]

/-! ## The route table (R175) -/

/-- Whether an entry's kind fits its node: SAMPLE from M1 and M2, INPUT from M3, STAGE from S4 (R175). -/
def routeFits (k : Fin 12) : Bool :=
  k = sampleRoute .one || k = sampleRoute .two || k = inputRoute || k = stageRoute

/-- The pass setting a route word carries in bits 2 and 1, if it names one (R183). -/
def passOf (w : Word) : Option Pass :=
  if w.extractLsb' 1 2 = 0 then some .off
  else if w.extractLsb' 1 2 = 1 then some .plain
  else if w.extractLsb' 1 2 = 2 then some .annotated
  else none

/-- The entry a route word asks for, where steps 2 and 3 of R175 allow it: annotated on SAMPLE entries alone, and neither
use nor a pass on the eight entries whose kind does not fit their node. -/
def routeEntryOf (k : Fin 12) (w : Word) : Option RouteEntry :=
  match passOf w with
  | none => none
  | some p =>
    if p = .annotated ∧ k.val % 3 ≠ 0 then none
    else if routeFits k = false ∧ (w.getLsbD 0 ∨ p ≠ .off) then none
    else some ⟨w.getLsbD 0, p, (clampTo 1 64 (hiByte w).toNat).toNat, 0⟩

/-- The route word of an entry (R183). -/
def routeWord (e : RouteEntry) : Nat := 256 * e.n + 2 * e.pass.code + e.use.toNat

/-- LOAD_TABLE to the route table, in every operating state (R175). -/
def State.loadRoute (s : State) (c : HeldCommand) (i : Byte) (w : Word) : State :=
  match indexOf 12 i with
  | none => s.answer c .badEntry []
  | some k =>
    match routeEntryOf k w with
    | none => s.answer c .badEntry []
    | some e =>
      State.answer { s with routes := s.routes.set k e } c (okOr (e.n ≠ (hiByte w).toNat)) [.word (routeWord e)]

/-- READ_TABLE of the route table (R175). -/
def State.readRoute (s : State) (c : HeldCommand) (i : Byte) : State :=
  match indexOf 12 i with
  | none => s.answer c .badEntry []
  | some k => s.answer c .ok [.word (routeWord s.routes[k]), .byte s.routes[k].counter]

/-! ## READ_TABLE -/

/-- What every LOAD_TABLE and READ_TABLE reply for a table carries: the valid mark of the OCV and derate tables, the lock and
relations mark of the limit table, the entry and relation mark of the balance table (R16, R71, R90, R123). -/
def State.tableMarks (s : State) (table index : Option Byte) : List Field :=
  if table = some 1 then [.mark s.cells.ocv.valid]
  else if table = some 2 then [.mark s.path.derate.valid]
  else if table = some 4 then s.guard.limitMarks
  else if table = some 5 then
    match index.bind (indexOf 7) with
    | some k => [.word s.balance.table[k], .mark s.balance.related]
    | none => [.mark s.balance.related]
  else []

/-- READ_TABLE by the table named; an unknown table is refused (R167, R183). -/
def State.readTableAt (s : State) (c : HeldCommand) (table i : Byte) : State :=
  if table = 0 then s.readCell c i
  else if table = 1 then s.readOcv c i
  else if table = 2 then s.readDerate c i
  else if table = 3 then s.readGuard c i
  else if table = 4 then s.readLimit c i
  else if table = 5 then s.readBalance c i
  else if table = 6 then s.readRoute c i
  else s.answer c .badEntry []

end Sys2Proof.Machine
end

