-- ==== Sys2Proof/Machine/Steps.lean ====
section
/-! DEFINITION. LOAD_STEP, CLEAR_STEP, READ_STEP, SWAP and GOTO at their issue (R31 to R37, R63). -/

namespace Sys2Proof.Machine

/-- A step address from its three bytes, with the row in 0..11 (R31). -/
def addressOf (bank row col : Byte) : Option StepAddr :=
  match bankOf bank, rowOf row, colOf col with
  | some id, some r, some c => some ⟨id, r, c⟩
  | _, _, _ => none

/-- A profile position from a row and a column byte (R28). -/
def positionOf (row col : Byte) : Option (Fin 11 × Fin 8) :=
  match profileRowOf row, colOf col with
  | some r, some c => some (r, c)
  | _, _ => none

/-- `s` with the entry at a step address replaced. -/
def State.setEntry (s : State) (a : StepAddr) (e : Option StepEntry) : State :=
  { s with seqr := s.seqr.setBank a.bank (setBankEntry (s.seqr.bank a.bank) a.row a.col e) }

/-- The result of a BAD_ENTRY caused by the address (R182). -/
def badAddress : List Field := [.byte 0]

/-- LOAD_STEP (R31). -/
def State.loadStep (s : State) (c : HeldCommand) (bank row col : Byte) (e : StepBytes) : State :=
  match addressOf bank row col with
  | none => s.answer c .badEntry badAddress
  | some a =>
    if s.activeBank = some a.bank then s.answer c .activeBank []
    else
      match checkEntry e with
      | .error field => s.answer c .badEntry [.byte field]
      | .ok k =>
        let n := normaliseEntry e k
        (s.setEntry a (some n)).answer c (okOr (entryClamped e n)) [.entry (some n)]

/-- CLEAR_STEP naming an entry (R34). -/
def State.clearEntry (s : State) (c : HeldCommand) (bank row col : Byte) : State :=
  match addressOf bank row col with
  | none => s.answer c .badEntry badAddress
  | some a =>
    if s.activeBank = some a.bank then s.answer c .activeBank [] else (s.setEntry a none).answer c .ok []

/-- CLEAR_STEP naming a bank (R34). -/
def State.clearBank (s : State) (c : HeldCommand) (bank : Byte) : State :=
  match bankOf bank with
  | none => s.answer c .badEntry badAddress
  | some id =>
    if s.activeBank = some id then s.answer c .activeBank []
    else State.answer { s with seqr := s.seqr.setBank id emptyBank } c .ok []

/-- The marks byte of a READ_STEP reply: the entry filled in bit 0, the designated bank active in bit 1 (R183). -/
def readStepMarks (filled active : Bool) : Byte := BitVec.ofNat 8 (filled.toNat + 2 * active.toNat)

/-- READ_STEP (R35), with the two bytes before the entry that R183 gives its reply. -/
def State.readStep (s : State) (c : HeldCommand) (bank row col : Byte) : State :=
  match addressOf bank row col with
  | none => s.answer c .badEntry badAddress
  | some a =>
    s.answer c .ok
      [.raw [readStepMarks (s.entryAt a).isSome s.activeBank.isSome], .bank s.seqr.designation, .entry (s.entryAt a)]

/-- The results every reply to SWAP carries (R42). -/
def State.swapResults (s : State) : List Field := [.bank s.seqr.designation, .step s.seqr.stored]

/-- The target step a SWAP gives: none given, or a profile position; an error where it names none (R36). -/
def swapTargetOf (target : Option (Byte × Byte)) : Except Unit (Option (Fin 11 × Fin 8)) :=
  match target with
  | none => .ok none
  | some (row, col) =>
    match positionOf row col with
    | some p => .ok (some p)
    | none => .error ()

/-- SWAP: refused, or recorded as the pending swap with no reply at issue (R36). -/
def State.takeSwap (s : State) (c : HeldCommand) (bank : Byte) (target : Option (Byte × Byte)) : State :=
  if s.op ≠ .run then s.answer c .state s.swapResults
  else
    match bankOf bank, swapTargetOf target with
    | some id, .ok t =>
      if s.activeBank = some id then s.answer c .activeBank s.swapResults
      else { s with seqr.swap := some ⟨id, t, c.place, c.seq⟩ }
    | _, _ => s.answer c .badEntry s.swapResults

/-- The results of an OK reply to GOTO (R63). -/
def State.gotoResults (s : State) (replaced : Bool) : List Field :=
  [.step s.seqr.stored, .step s.seqr.effective, .step s.gotoAddr, .mark replaced]

/-- GOTO: refused, or recorded as the pending goto (R63). -/
def State.takeGoto (s : State) (c : HeldCommand) (row col : Byte) : State :=
  if s.op ≠ .run then s.answer c .state []
  else
    match positionOf row col, s.activeBank with
    | some (q, k), some bank =>
      if (s.entryAt ⟨bank, profileRow q, k⟩).isNone then s.answer c .badEntry []
      else
        let s' : State := { s with seqr.goto := some (q, k) }
        s'.answer c .ok (s'.gotoResults s.seqr.goto.isSome)
    | _, _ => s.answer c .badEntry []

end Sys2Proof.Machine
end

