-- ==== Sys2Proof/Machine/Control.lean ====
section
/-! DEFINITION. State control and the hold unit's commands: START, STOP, HOLD, RESUME, OVERRIDE, LOCK and the soft reset
(R73, R82, R84, R85, R146, R149 to R154, R168, R184 to R189). -/

namespace Sys2Proof.Machine

/-! ## LOCK and OVERRIDE -/

/-- LOCK (R73). -/
def State.takeLock (s : State) (c : HeldCommand) : State :=
  State.answer { s with guard.lock := true } c .ok [.mark s.guard.lock]

/-- The results of an OK reply to OVERRIDE (R82). -/
def State.overrideResults (s : State) (changed : Bool) : List Field :=
  [.mark s.guard.hostReq, .causes s.guard.causes, .mark changed]

/-- OVERRIDE set in RUN: the host request mark, and HOST_SET with its override evaluation where it is absent (R82). -/
def State.setHostRequest (s : State) : State := State.eventCause { s with guard.hostReq := true } .hostSet

/-- OVERRIDE (R82). DEDUCED (log 34): the operating state is checked before the code. -/
def State.takeOverride (s : State) (c : HeldCommand) (code : Byte) : State :=
  if s.op ≠ .run then s.answer c .state []
  else if code = 1 then
    s.setHostRequest.answer c .ok (s.setHostRequest.overrideResults (!s.guard.causes.hostSet))
  else if code = 0 then
    let s' : State := { s with guard.hostReq := false }
    s'.answer c .ok (s'.overrideResults false)
  else s.answer c .badEntry []

/-! ## START -/

/-- The start conditions of R186: the results of the first that fails, by its number. -/
def State.startFailure (s : State) (a : StepAddr) : Option (List Field) :=
  if a.row = overrideRow ∨ (s.entryAt a).isNone then some [.byte 1]
  else
    match lowestEmptyColumn (s.seqr.bank a.bank) with
    | some col => some [.byte 2, .byte col]
    | none =>
      if s.path.derate.valid = false then some [.byte 3]
      else if s.cells.ocv.valid = false then some [.byte 4]
      else if s.cells.capacity .one = 0 then some [.byte 5, .byte 1]
      else if s.cells.capacity .two = 0 then some [.byte 5, .byte 2]
      else if s.cells.records.one.known = false then some [.byte 6, .byte 1]
      else if s.cells.records.two.known = false then some [.byte 6, .byte 2]
      else if s.guard.related = false then some (.byte 7 :: s.guard.relations)
      else if s.balance.related = false then some [.byte 8]
      else none

/-- The causes START seeds: STALE where a cell is not FRESH, LINK where the link condition mark is set (R84). -/
def State.seededCauses (s : State) : Causes :=
  { s.guard.causes with
    stale := s.guard.causes.stale || !s.bothFresh, link := s.guard.causes.link || s.guard.linkMark }

/-- START's effects up to its evaluation, in the order of R187. -/
def State.startSteps (s : State) (a : StepAddr) : State :=
  let s1 : State := { s with guard.lock := true, seqr.designation := some a.bank }
  let s2 := s1.enterFresh a
  let s3 : State := { s2 with path.ship := false, op := .run }
  s3.changeCauses .start s3.seededCauses none

/-- START (R186, R187). -/
def State.takeStart (s : State) (c : HeldCommand) (bank row col : Byte) : State :=
  if s.op ≠ .config then s.answer c .state []
  else
    match addressOf bank row col with
    | none => s.answer c .badEntry []
    | some a =>
      match s.startFailure a with
      | some results => s.answer c .badTable results
      | none =>
        let e := (s.startSteps a).evaluateEntry
        e.1.answer c .ok
          [.step e.1.seqr.stored, .bank e.1.seqr.designation, .step e.1.seqr.effective, .causes e.1.guard.causes,
            .mark s.guard.lock, .mark e.2]

/-! ## Leaving for CONFIG -/

/-- The sequencer's part of STOP and RESUME STOP (R66). -/
def State.stopSequencer (s : State) : State :=
  { s with seqr.goto := none, seqr.dwell := .noDwell, seqr.effective := none }

/-- The guard unit's part of STOP and RESUME STOP (R85). -/
def State.emptyCauses (s : State) : State :=
  let s' := s.changeCauses .stop Causes.none none
  { s' with guard.hostReq := false }

/-- The move to CONFIG by STOP or RESUME STOP, the blocks acting in the order of R189 (R66, R85, R87, R108, R138, R153).
One setpoint is called for, also where a shuttle ends (log 44). -/
def State.leaveForConfig (s : State) : State :=
  let s1 : State := { s with op := .config, gate := false }
  let s2 := (s1.cancelSwap 1).stopSequencer
  let s3 := s2.emptyCauses.endBalancing .stop
  State.callSetpoint { s3 with path.handOver := none }

/-- STOP (R189). -/
def State.takeStop (s : State) (c : HeldCommand) : State :=
  if s.op ≠ .run then s.answer c .state []
  else
    s.leaveForConfig.answer c .ok
      [.step s.leaveForConfig.seqr.stored, .bank s.leaveForConfig.seqr.designation, .mark s.seqr.swap.isSome,
        .mark s.balance.shuttle.active]

/-! ## HOLD and RESUME -/

/-- The hold cause HOST with its optional code (R141, R146). -/
def hostCause (code : Option Word) : HoldCause :=
  ⟨.host, .host, (match code with | some w => .code w | none => .absent), none, false⟩

/-- The hold record's fields, none of them where there is no record. -/
def State.holdRecordFields (s : State) : List Field := ((s.hold.record.map HoldRecord.fields).getD [])

/-- HOLD (R146). -/
def State.takeHold (s : State) (c : HeldCommand) (code : Option Word) : State :=
  if s.op ≠ .run then s.answer c .state [.byte s.op.code]
  else
    (s.handCause (hostCause code)).answer c .ok (s.handCause (hostCause code)).holdRecordFields

/-- What a disposition does with the stored step: keeps it, or enters a step fresh (R150). -/
inductive Placing where
  | keep
  | fresh (a : StepAddr)
deriving DecidableEq, Repr

/-- The results of a RESUME reply (R149): the disposition as given, the state and the stored step after the command, and the
held-again mark with the new record's cause, source and trapped value. -/
def State.resumeResults (s : State) (disposition : Nat) (again : Bool) : List Field :=
  [.byte disposition, .byte s.op.code, .step s.seqr.stored]
    ++ optional (if again then s.hold.record else none)
        (fun h => [.byte h.cause.kind.code, .byte h.cause.source.code] ++ h.cause.value.fields) HoldRecord.blank

/-- A RESUME that passes its checks: both breach marks emptied, the disposition written into the hold record (R149). -/
def State.acceptResume (s : State) (d : Disposition) : State :=
  { s with
    cells.records :=
      ⟨{ s.cells.records.one with breach := Breach.none }, { s.cells.records.two with breach := Breach.none }⟩
    hold.record := s.hold.record.map fun h => { h with resolution := some (.resumed d) } }

/-- The stored step placed as a disposition names (R150). -/
def State.place (s : State) : Placing → State
  | .keep => s
  | .fresh a => s.enterFresh a

/-- RESUME to RUN (R150 to R152): with a pending hold the hub re-enters HELD at once; otherwise the state is RUN and the
resume evaluation runs. DEDUCED (log 37): where the HELD zero setpoint still waits in the slot, RUN's setpoint replaces it
and climbs from the last frame sent (R96, R115). -/
def State.resumeRun (s : State) (c : HeldCommand) (d : Disposition) (p : Placing) : State :=
  let s1 := (s.acceptResume d).place p
  match s1.hold.pendingHold with
  | some cause =>
    let s2 := State.enterHeld { s1 with hold.pendingHold := none } cause true
    s2.answer c .ok (s2.resumeResults d.code true)
  | none =>
    let s2 := (State.evaluateEntry { s1 with op := .run }).1
    s2.answer c .ok (s2.resumeResults d.code false)

/-- RESUME STOP (R153). -/
def State.resumeStop (s : State) (c : HeldCommand) : State :=
  let s1 := s.acceptResume .stop
  let s2 := State.leaveForConfig { s1 with hold.pendingHold := none }
  s2.answer c .ok (s2.resumeResults Disposition.stop.code false)

/-- A refused RESUME (R149). -/
def State.refuseResume (s : State) (c : HeldCommand) (status : Status) (disposition : Nat) : State :=
  s.answer c status (s.resumeResults disposition false)

/-- A filled position of the active bank, as HOME and STEP need it (R149). -/
def State.activeStep (s : State) (q : Fin 11) (col : Fin 8) : Option StepAddr :=
  match s.activeBank with
  | none => none
  | some bank =>
    let a : StepAddr := ⟨bank, profileRow q, col⟩
    if (s.entryAt a).isSome then some a else none

/-- RETRY's placing: the stored step entered fresh (R150). -/
def State.retryPlacing (s : State) : Placing :=
  match s.seqr.stored with
  | some a => .fresh a
  | none => .keep

/-- RESUME with a disposition byte other than STEP (R149 to R153). -/
def State.takeResume (s : State) (c : HeldCommand) (d : Byte) : State :=
  if s.op ≠ .held then s.refuseResume c .state d.toNat
  else if d = 0 then s.resumeRun c .continue .keep
  else if d = 1 then s.resumeRun c .retry s.retryPlacing
  else if d = 2 then
    match s.activeStep 0 0 with
    | some a => s.resumeRun c .home (.fresh a)
    | none => s.refuseResume c .badEntry d.toNat
  else if d = 4 then s.resumeStop c
  else s.refuseResume c .badEntry d.toNat

/-- RESUME with the disposition STEP (R149 to R152). -/
def State.takeResumeStep (s : State) (c : HeldCommand) (row col : Byte) : State :=
  if s.op ≠ .held then s.refuseResume c .state Disposition.step.code
  else
    match (positionOf row col).bind fun p => s.activeStep p.1 p.2 with
    | some a => s.resumeRun c .step (.fresh a)
    | none => s.refuseResume c .badEntry Disposition.step.code

/-! ## The soft reset -/

/-- The command unit's and the output queues' part: steps 1 to 3 of R168. The frames being sent go on; the one on port U no
longer answers a held command. -/
def State.resetQueues (s : State) : State :=
  { s with
    link.sendingU := s.link.sendingU.map fun u => { u with answers := none }
    out := ⟨[], [], []⟩
    cmd := { s.cmd with held := [], nodes := ⟨.empty, .empty, .empty, .empty⟩ } }

/-- The route unit's part: the decimation counters (R176). -/
def State.resetRoutes (s : State) : State := { s with routes := s.routes.map fun e => { e with counter := 0 } }

/-- A cell record's part: the breach mark and the round-ready mark (R23). -/
def CellRecord.softReset (r : CellRecord) : CellRecord := { r with breach := Breach.none, contribution := none }

/-- The cell accounting unit's part (R23). -/
def State.resetCells (s : State) : State :=
  { s with cells.records := ⟨s.cells.records.one.softReset, s.cells.records.two.softReset⟩ }

/-- The sequencer's part (R43, R67). -/
def State.resetSequencer (s : State) : State :=
  { s with
    seqr :=
      { s.seqr with
        swap := none, stored := none, t := false, d := false, firstEval := false, lastTest := none, dwell := .noDwell,
        goto := none, effective := none } }

/-- The guard unit's part (R86). -/
def State.resetGuard (s : State) : State :=
  { s with guard := { s.guard with causes := Causes.none, hostReq := false, changes := 0 } }

/-- The hold unit's part (R154). -/
def State.resetHold (s : State) : State :=
  { s with
    hold :=
      ⟨if s.op = .held then s.hold.record.map fun h => { h with resolution := some .reset } else s.hold.record, none⟩ }

/-- The path unit's part but its setpoint (R103, R112, R121). A STAGE report that follows answers the reset's own zero setpoint,
whatever timed out before (R169). -/
def State.resetPath (s : State) : State :=
  { s with
    path :=
      { s.path with
        handOver := none, computation := none, ship := false, pendingOffer := none, slot := none, overdue := false } }

/-- The shuttle as a soft reset leaves it: ended RESET if ACTIVE, with no cooldown (R133, R134, R138, R140). -/
def Shuttle.softReset (x : Shuttle) : Shuttle :=
  let ended : Shuttle :=
    if x.active then
      { x with active := false, endReason := .aborted .reset, lastTransferred := x.transferred }
    else x
  { ended with cooldown := none, permission := none, overrideMark := false }

/-- The balance unit's part: both records OFF, a BLEED OFF frame to M1 and then to M2 (R138). -/
def State.resetBalance (s : State) : State :=
  let s' := (s.sendBleeds .one [false]).sendBleeds .two [false]
  { s' with balance := { s'.balance with bleeds := s'.balance.bothOff, shuttle := s'.balance.shuttle.softReset } }

/-- The soft reset of every block, with the zero SETPOINT sent before the BLEED OFF frames (R168, log 11); it is
the one setpoint, also where a shuttle ends (log 44). -/
def State.softReset (s : State) : State :=
  let s1 := s.resetHold.resetQueues.resetRoutes.resetCells.resetSequencer.resetGuard.resetPath
  let s2 : State := { s1 with op := .config, gate := false }
  s2.callSetpoint.resetBalance

/-- RESET addressed to the hub (R168). DEDUCED (log 43): with port U idle the arbiter takes the reply at the end of this event
(R180), so a second RESET no longer finds it in the reply queue, as R169 has it. -/
def State.takeReset (s : State) (seq : Byte) : State :=
  { s.softReset with out.replies := [⟨none, .ok, seq, [.byte s.op.code, .byte s.cmd.held.length]⟩] }

end Sys2Proof.Machine
end

