-- ==== Sys2Proof/Machine/Requests.lean ====
section
/-! DEFINITION. OFFER, ACCEPT, WITHDRAW, SHIP, BALANCE, SET_CHARGE and QUERY at their issue (R14, R109 to R112, R135 to R137,
R166, R182). -/

namespace Sys2Proof.Machine

/-! ## The supply offer and ship mode -/

/-- OFFER (R109). DESIGN CHOICE (log 27): its current is read unsigned, as R183's table marks the signed words and not this
one. -/
def State.takeOffer (s : State) (c : HeldCommand) (v i : Word) (cls : Byte) : State :=
  if h : cls.toNat < 4 then
    if s.path.present then
      let o : Offer := ⟨clampTo 5000 20000 v.toNat, clampTo 500 5000 i.toNat, ⟨cls.toNat, h⟩⟩
      State.answer { s with path.pendingOffer := some o } c (okOr (o.voltage ≠ v.toNat || o.current ≠ i.toNat))
        (o.fields ++ optional s.path.acceptedOffer Offer.fields Offer.zero
          ++ [.mark s.path.present, .mark s.path.pendingOffer.isSome])
    else s.answer c .state [.mark s.path.present]
  else s.answer c .badEntry []

/-- ACCEPT (R110). -/
def State.takeAccept (s : State) (c : HeldCommand) : State :=
  match s.path.pendingOffer with
  | none => s.answer c .badEntry []
  | some o => s.promote.answer c .ok o.fields

/-- WITHDRAW (R111). -/
def State.takeWithdraw (s : State) (c : HeldCommand) : State :=
  State.answer { s with path.pendingOffer := none, path.acceptedOffer := none } c .ok
    [.mark s.path.pendingOffer.isSome, .mark s.path.acceptedOffer.isSome]

/-- SHIP (R112). -/
def State.takeShip (s : State) (c : HeldCommand) : State :=
  if s.op ≠ .config then s.answer c .state []
  else if s.path.ship then s.answer c .ok [.mark true]
  else (State.callSetpoint { s with path.ship := true }).answer c .ok [.mark false]

/-! ## BALANCE -/

/-- Whether BALANCE is taken: RUN, with no override cause in the set (R135 to R137). -/
def State.balanceTaken (s : State) : Bool := s.op = .run && s.guard.causes.isEmpty

/-- A cell's lead from the cell records as they stand (R135). -/
def State.recordLead (s : State) (k : CellId) : Int := ((s.cell k).soc : Int) - (s.cell (otherCell k)).soc

/-- The amount BALANCE SHUTTLE fixes, with whether it was clamped; none where it is 0 (R135). -/
def State.hostAmount (s : State) (given : Option (Word × Byte)) : Option (Nat × Bool) :=
  match given with
  | some (m, e) =>
    if expand m e = 0 then none
    else some (min (expand m e) s.cells.minFull, decide (s.cells.minFull < expand m e))
  | none =>
    let q := shuttleAmount (s.recordLead .one) s.cells.minFull
    if q = 0 then none else some (q, false)

/-- The host's shuttle: the bleeds set OFF, the cooldown cancelled, the shuttle started, and a setpoint called for
(R135). -/
def State.hostShuttle (s : State) (k : CellId) (amount : Nat) : State :=
  State.callSetpoint
    (State.startShuttle { s.bleedsOff with balance.shuttle.cooldown := none } .host k (s.recordLead k) amount)

/-- BALANCE SHUTTLE (R135). -/
def State.takeShuttle (s : State) (c : HeldCommand) (cell : Byte) (given : Option (Word × Byte)) : State :=
  match cellOf cell with
  | none => s.answer c .badEntry []
  | some k =>
    if s.balanceTaken then
      match s.hostAmount given with
      | none => s.answer c .badEntry []
      | some (q, clamped) =>
        (s.hostShuttle k q).answer c (okOr clamped) (s.hostShuttle k q).balance.shuttle.fields
    else s.answer c .state []

/-- The bleed setting a byte codes (R183). -/
def settingOf (b : Byte) : Option Bool := if b = 0 then some false else if b = 1 then some true else none

/-- Both records after BALANCE BLEED: on sets the other cell's record OFF and this one ON with origin HOST; off sets this one
OFF (R136). -/
def BalanceUnit.hostBleeds (b : BalanceUnit) (k : CellId) (on : Bool) : PerCell BleedRecord :=
  if on then b.bothOff.set k ((b.bleeds.get k).setTo true .host)
  else b.bleeds.set k ((b.bleeds.get k).setTo false .none)

/-- BALANCE BLEED (R136). -/
def State.takeBleed (s : State) (c : HeldCommand) (cell setting : Byte) : State :=
  match cellOf cell, settingOf setting with
  | some k, some on =>
    if s.balanceTaken = false then s.answer c .state []
    else if on ∧ s.balance.shuttle.active then s.answer c .state s.balance.shuttle.fields
    else
      let new := s.balance.hostBleeds k on
      (s.putBleeds new new).answer c .ok (s.putBleeds new new).balance.bleedFields
  | _, _ => s.answer c .badEntry []

/-- Everything BALANCE STOP ends: the shuttle, with a setpoint called for where one was ACTIVE, and the bleeds (R133,
R137). -/
def State.stopBalancing (s : State) : State :=
  let s' := s.endBalancing .command
  if s.balance.shuttle.active then s'.callSetpoint else s'

/-- BALANCE STOP (R137). -/
def State.takeBalanceStop (s : State) (c : HeldCommand) : State :=
  if s.balanceTaken then
    s.stopBalancing.answer c .ok [.mark s.balance.shuttle.active, .mark s.anyBleed]
  else s.answer c .state []

/-! ## SET_CHARGE -/

/-- The content SET_CHARGE sets against a full-charge content, with whether a clamp altered the value (R14). -/
def contentOf (content : ChargeArg) (full : Nat) : Nat × Bool :=
  match content with
  | .soc p => (min p.toNat 1000 * full / 1000, decide (1000 < p.toNat))
  | .scaled m e => (min (expand m e) full, decide (full < expand m e))

/-- SET_CHARGE (R14). -/
def State.takeSetCharge (s : State) (c : HeldCommand) (cell : Byte) (content : ChargeArg) : State :=
  match cellOf cell with
  | none => s.answer c .badEntry []
  | some k =>
    if s.cells.capacity k = 0 then s.answer c .badTable []
    else
      let set := contentOf content (s.cells.full k)
      let r : CellRecord := { (s.cell k).withCharge set.1 (s.cells.full k) with known := true }
      (s.setCell k r).answer c (okOr set.2) [.word r.soc, .charge r.charge]

/-! ## QUERY -/

/-- QUERY: the part named of the record selected (R166, R182). -/
def State.takeQuery (s : State) (c : HeldCommand) (selector argument part : Byte) : State :=
  match s.queryRecord selector argument with
  | none => s.answer c .badEntry []
  | some fields =>
    let bytes := encodeFields fields
    if part.toNat < partCount bytes then
      s.answer c .ok [.byte part.toNat, .byte (partCount bytes), .raw (partOf bytes part.toNat)]
    else s.answer c .badEntry []

end Sys2Proof.Machine
end

