-- ==== Sys2Proof/Machine/Issue.lean ====
section
/-! DEFINITION. The command unit: acceptance, the head's conditions, issue, and the work at the end of an event (R155 to R165,
R168, R180). -/

namespace Sys2Proof.Machine

/-! ## Conditions -/

/-- Whether a write naming a bank waits while a swap is pending: in RUN or HELD, when it names the bank that is not active
(R32, R158). -/
def State.writeWaits (s : State) (bank : Byte) : Bool :=
  match bankOf bank, s.activeBank with
  | some id, some active => id ≠ active
  | _, _ => false

/-- What a command addressed to the hub waits on, judged on its name bytes (R158, log 22). -/
def State.hubWait (s : State) (payload : List Byte) : Option Reservation :=
  match payload with
  | [] => none
  | name :: args =>
    if name = 1 ∨ name = 2 then if (args.head?.map s.writeWaits).getD false then some .banks else none
    else if name = 9 ∨ name = 10 then some .banks
    else if name = 18 ∧ args.head? = some 0 then some .shuttle
    else if name = 19 then some .shuttle
    else none

/-- The reservation a held command waits on while it is held, if any (R158). -/
def State.waitsOn (s : State) (c : HeldCommand) : Option Reservation :=
  if c.dest = hubAddress then s.hubWait c.payload else (nodeOf c.dest).map .node

/-- The reservation that blocks a held command now. -/
def State.blockedOn (s : State) (c : HeldCommand) : Option Reservation :=
  match s.waitsOn c with
  | some r => if s.reserved r then some r else none
  | none => none

/-! ## Issue -/

/-- A held command in ISSUED, its wait timer discarded (R155, R159). -/
def HeldCommand.issued (c : HeldCommand) : HeldCommand := { c with state := .issued, wait := none }

/-- The results of a BAD_ENTRY for a payload that does not match its command's layout: what the command's rule gives every
reply (R16, R42, R71, R90, R123, R149), and otherwise nothing (R162). DEDUCED (log 12). -/
def State.malformedResults (s : State) (payload : List Byte) : List Field :=
  let name := payload.head?
  let first := payload[1]?
  if name = some 9 then s.swapResults
  else if name = some 13 then s.resumeResults ((first.map BitVec.toNat).getD 255) false
  else if name = some 4 ∨ name = some 5 then s.tableMarks first payload[2]?
  else []

/-- A command to the hub acts by its name (R161). -/
def State.act (s : State) (c : HeldCommand) (k : HubCommand) : State :=
  match k with
  | .loadStep bank row col e => s.loadStep c bank row col e
  | .clearEntry bank row col => s.clearEntry c bank row col
  | .clearBank bank => s.clearBank c bank
  | .readStep bank row col => s.readStep c bank row col
  | .loadCell i v => s.loadCell c i v
  | .loadOcv i v soc => s.loadOcv c i v soc
  | .loadDerate i t d => s.loadDerate c i t d
  | .loadGuard i v => s.loadGuard c i v
  | .loadLimit i v => s.loadLimit c i v
  | .loadBalance i v => s.loadBalance c i v
  | .loadRoute i v => s.loadRoute c i v
  | .readTable table i => s.readTableAt c table i
  | .lock => s.takeLock c
  | .start bank row col => s.takeStart c bank row col
  | .stop => s.takeStop c
  | .swap bank target => s.takeSwap c bank target
  | .goto row col => s.takeGoto c row col
  | .override code => s.takeOverride c code
  | .hold code => s.takeHold c code
  | .resume d => s.takeResume c d
  | .resumeStep row col => s.takeResumeStep c row col
  | .offer v i cls => s.takeOffer c v i cls
  | .accept => s.takeAccept c
  | .withdraw => s.takeWithdraw c
  | .ship => s.takeShip c
  | .shuttle cell amount => s.takeShuttle c cell amount
  | .bleed cell setting => s.takeBleed c cell setting
  | .balanceStop => s.takeBalanceStop c
  | .setCharge cell content => s.takeSetCharge c cell content
  | .query selector argument part => s.takeQuery c selector argument part
  | .badArguments => s.answer c .badEntry (s.malformedResults c.payload)
  | .unknown => s.answer c .unknown []

/-- A command issues: at the hub by its name, to a node by forwarding, and with an address of 5 to 15 answered UNKNOWN
(R161, R164). -/
def State.issue (s : State) (c : HeldCommand) : State :=
  if c.dest = hubAddress then (s.updateHeld c.place HeldCommand.issued).act c (parseCommand c.payload)
  else
    match nodeOf c.dest with
    | some n => s.forwardCommand c n
    | none => s.answer c .unknown []

/-! ## The end of an event -/

/-- The head's wait timer started, if it is not running (R159). -/
def HeldCommand.startWait (c : HeldCommand) : HeldCommand := { c with wait := some (c.wait.getD 0) }

/-- The head issues while its conditions hold, at most `fuel` commands; a head that is blocked starts its wait timer
(R158, R159). The arbiter acts after each issue (log 7). -/
def State.drain : Nat → State → State
  | 0, s => s
  | fuel + 1, s =>
    match s.head with
    | none => s
    | some c =>
      match s.blockedOn c with
      | some _ => s.updateHeld c.place HeldCommand.startWait
      | none => (s.issue c).arbitrate.drain fuel

/-- The end of every event: the arbiter acts, then the head of the command queue is examined (R158, R180, log 7). A head
waiting for a node has been examined at that node's release already (log 30). DEDUCED (log 43): a reply or a node REPLY that
an idle port U takes here is sent, though a RESET that follows would have cleared it by R169. -/
def State.settle (s : State) : State := s.arbitrate.drain s.cmd.held.length

/-- An event of the table: its effect, then the end of the event. While RST is held asserted the hub keeps its power-on
values, takes nothing and sends nothing (R185, log 5). -/
def State.event (s : State) (effect : State → State) : Host.Outcome State Fault Refusal :=
  .next (if s.rst then s else (effect s).settle)

/-! ## Acceptance -/

/-- Whether a place of the command queue is taken. -/
def State.placeTaken (s : State) (p : Nat) : Bool := s.cmd.held.any fun c => c.place = p

/-- The lowest free place of the command queue (log 15). -/
def State.freePlace (s : State) : Nat := (([0, 1, 2].find? fun p => !s.placeTaken p)).getD 3

/-- A COMMAND that is not the hub's RESET: appended to the queue in WAITING, or discarded with four held (R156). -/
def State.accept (s : State) (dest src : Address) (seq : Byte) (payload : List Byte) : State :=
  if s.cmd.held.length < Config.heldMax then
    s.withHeld (s.cmd.held ++ [⟨s.freePlace, dest, src, seq, payload, .waiting, none⟩])
  else { s with cmd.overrun := true, cmd.discards := bump s.cmd.discards }

/-- A good COMMAND frame on port U (R156, R168). -/
def State.arriveCommand (s : State) (dest src : Address) (seq : Byte) (payload : List Byte) : State :=
  if isReset dest payload then s.takeReset seq else s.accept dest src seq payload

/-- The arrival of the COMMAND that carries a command to the hub, from the processor (log 1, log 20). -/
def State.hubCommand (s : State) (seq : Byte) (k : HubCommand) : Host.Outcome State Fault Refusal :=
  s.event fun t => t.arriveCommand hubAddress processorAddress seq (encodeCommand k)

/-! ## Answers and timeouts of the command unit -/

/-- A node's REPLY (R164). -/
def State.takeNodeReply (s : State) (n : NodeId) (dest : Address) (seq : Byte) (payload : List Byte) : State :=
  match s.cmd.nodes.get n with
  | .command place _ _ =>
    let s1 := s.placeForward ⟨⟨dest, nodeAddress n, kindReply, seq, payload⟩, some place⟩
    (s1.updateHeld place HeldCommand.replied).releaseNode n
  | _ => { s with cmd.late := s.cmd.late.set n (bump (s.cmd.late.get n)) }

/-- The answer timer of a node command runs out (R165, log 19). -/
def State.expireNode (s : State) (n : NodeId) : State :=
  match s.cmd.nodes.get n with
  | .command place seq _ =>
    (s.answerAt place seq .nodeTimeout [.byte (nodeNumber n), .long Config.answerMs]).releaseNode n
  | _ => s

/-- The results of a BUSY reply: the reservation, after what every reply to SWAP carries where it answers one (R42, R159;
log 12). -/
def State.busyResults (s : State) (c : HeldCommand) (r : Reservation) : List Field :=
  (if c.dest = hubAddress ∧ c.payload.head? = some 9 then s.swapResults else []) ++ [.byte r.code]

/-- The wait timer of the head runs out with its conditions unmet: answered BUSY with the reservation (R159). -/
def State.expireWait (s : State) : State :=
  match s.head with
  | none => s
  | some c =>
    match c.wait, s.blockedOn c with
    | some _, some r => s.answer c .busy (s.busyResults c r)
    | _, _ => s

/-- The hold cause STAGE_SILENT of an unanswered SETPOINT (R117). -/
def silentCause (seq : Byte) : HoldCause := ⟨.stageSilent, .stage, .number seq, none, false⟩

/-- The answer timer of the outstanding setpoint runs out (R117). In RUN the slot is discarded before NODE4 is released, so a
command that waits for it issues before the hold entry's setpoint is composed (R119, log 30). -/
def State.expireAnswer (s : State) : State :=
  match s.cmd.nodes.s4 with
  | .setpoint sent _ =>
    let s1 : State := { s with path.silent := bump s.path.silent, path.overdue := true }
    if s.op = .run then
      (State.releaseNode { s1 with path.slot := none } .s4).handCause (silentCause sent.seq)
    else (s1.releaseNode .s4).handCause (silentCause sent.seq)
  | _ => s

/-- The shuttle's time-limit timer reaches its length (R132). -/
def State.expireTimeLimit (s : State) : State :=
  if s.balance.shuttle.active then
    let s1 : State := { s with balance.shuttle.elapsed := s.balance.shuttle.length }
    let s2 := s1.endShuttle .timeout
    if s.op = .run then s2.callSetpoint else s2
  else s

/-- The cooldown timer runs out (R134). -/
def State.expireCooldown (s : State) : State := { s with balance.shuttle.cooldown := none }

/-! ## The transmitters -/

/-- A frame has left port U: the held command it answers leaves the queue (R155, R180). -/
def State.sentU (s : State) : State :=
  match s.link.sendingU with
  | none => s
  | some u =>
    let s1 : State := { s with link.sendingU := none }
    match u.answers with
    | none => s1
    | some place => s1.withHeld (s1.cmd.held.filter fun c => c.place ≠ place)

/-- A frame has left port D: the next frame handed begins (R170). -/
def State.sentD (s : State) : State :=
  match s.link.queueD with
  | [] => { s with link.sendingD := none }
  | f :: rest => { s with link.sendingD := some f, link.queueD := rest }

end Sys2Proof.Machine
end

