-- ==== Sys2Proof/Machine/Frames.lean ====
section
/-! DEFINITION. The meanings of the lines, of the frames that arrive on the two ports, and of the transmitters' completions:
one definition per row. -/

namespace Sys2Proof.Machine

/-! ## The RST line -/

/-- POWER_ON_OR_RST: every block at its power-on values, the receivers and transmitters off (R185). The level of the FOLD
input and the waiting commands are not the hub's to reset. -/
def execPowerOnOrRst (s : State) : Host.Outcome State Fault Refusal :=
  .next { State.reset with pending := s.pending, fold := s.fold }

/-- RST_RELEASE: the hub begins in CONFIG, and the move into CONFIG calls for a setpoint (R113, R121, R185). -/
def execRstRelease (s : State) : Host.Outcome State Fault Refusal :=
  .next (if s.rst then (State.callSetpoint { s with rst := false }).settle else s)

/-! ## Port U -/

/-- PORT_U_BAD_FRAME: dropped whole (R171, R172). -/
def execPortUBadFrame (s : State) : Host.Outcome State Fault Refusal := s.event fun t => t

/-- OTHER_FRAME_ON_PORT_U: dropped (R156). -/
def execOtherFrameOnPortU (s : State) : Host.Outcome State Fault Refusal := s.event fun t => t

/-- COMMAND (R156). -/
def execCommand (dest src : Address) (seq : Byte) (payload : List Byte) (s : State) :
    Host.Outcome State Fault Refusal :=
  s.event fun t => t.arriveCommand dest src seq payload

/-- RESET (R156, R168). -/
def execReset (seq : Byte) (s : State) : Host.Outcome State Fault Refusal := s.event fun t => t.takeReset seq

/-- UNKNOWN_COMMAND (R156, R161). -/
def execUnknownCommand (dest src : Address) (seq : Byte) (payload : List Byte) (s : State) :
    Host.Outcome State Fault Refusal :=
  s.event fun t => t.arriveCommand dest src seq payload

/-- NODE_COMMAND (R156, R164). -/
def execNodeCommand (n : NodeId) (src : Address) (seq : Byte) (payload : List Byte) (s : State) :
    Host.Outcome State Fault Refusal :=
  s.event fun t => t.arriveCommand (nodeAddress n) src seq payload

/-! ## Port D -/

/-- PORT_D_BAD_FRAME (R172, R78). -/
def execPortDBadFrame (s : State) : Host.Outcome State Fault Refusal := s.event State.badFrameD

/-- UNFIT_FRAME: a good frame, dropped by the route unit (R172, R174). -/
def execUnfitFrame (s : State) : Host.Outcome State Fault Refusal := s.event State.goodFrameD

/-- Step 3 of R174 for a SAMPLE: plain or annotated; `figures` tells whether the cell accounting unit returned the cell's
figures (R177). -/
def State.forwardSample (s : State) (p : Pass) (c : CellId) (f : SampleFrame) (figures : Bool) : State :=
  if p = .annotated ∧ sampleClean f ∧ figures then s.placeForward ⟨annotate (sampleToFrame c f) (s.cell c), none⟩
  else s.forwardPlain p (sampleToFrame c f)

/-- A SAMPLE at the route unit (R174, R177). -/
def State.routeSample (s : State) (c : CellId) (f : SampleFrame) : State :=
  let used : Bool := s.routes[sampleRoute c].use
  let d := s.routeDecision (sampleRoute c)
  let t := if used then d.2.takeSample c f (d.1 ≠ .off) else d.2
  t.forwardSample d.1 c f (used && !(s.cell c).duplicates f.seq)

/-- SAMPLE (R3, R172, R174). -/
def execSample (c : CellId) (f : SampleFrame) (fold : Bool) (s : State) : Host.Outcome State Fault Refusal :=
  s.event fun t => State.routeSample { t.goodFrameD with fold := fold } c f

/-- An INPUT at the route unit (R174). -/
def State.routeInput (s : State) (f : InputFrame) : State :=
  let d := s.routeDecision inputRoute
  let t := if s.routes[inputRoute].use then d.2.takeInput f else d.2
  t.forwardPlain d.1 (inputToFrame f)

/-- INPUT (R7, R105, R172, R174). -/
def execInput (f : InputFrame) (s : State) : Host.Outcome State Fault Refusal :=
  s.event fun t => t.goodFrameD.routeInput f

/-- A STAGE report at the route unit (R174). -/
def State.routeStage (s : State) (f : StageFrame) : State :=
  let d := s.routeDecision stageRoute
  let t := if s.routes[stageRoute].use then d.2.takeStage f (d.1 ≠ .off) else d.2
  t.forwardPlain d.1 (stageToFrame f)

/-- STAGE (R116, R118, R172, R174). -/
def execStage (f : StageFrame) (s : State) : Host.Outcome State Fault Refusal :=
  s.event fun t => t.goodFrameD.routeStage f

/-- NODE_REPLY (R164, R172, R174). -/
def execNodeReply (n : NodeId) (dest : Address) (seq : Byte) (payload : List Byte) (s : State) :
    Host.Outcome State Fault Refusal :=
  s.event fun t => t.goodFrameD.takeNodeReply n dest seq payload

/-! ## The transmitters -/

/-- PORT_U_FRAME_SENT (R155, R180). -/
def execPortUFrameSent (s : State) : Host.Outcome State Fault Refusal := s.event State.sentU

/-- PORT_D_FRAME_SENT (R170). -/
def execPortDFrameSent (s : State) : Host.Outcome State Fault Refusal := s.event State.sentD

end Sys2Proof.Machine
end

