-- ==== Sys2Proof/Machine/Commands.lean ====
section
/-! DEFINITION. The meanings of the rows that name a command of the processor: the arrival of the COMMAND frame that carries
it, accepted by R156 and issued by R158, acting through the rule of the block that owns it (log 1). -/

namespace Sys2Proof.Machine

/-- LOAD_STEP (R31). -/
def execLoadStep (seq bank row col : Byte) (e : StepBytes) (s : State) : Host.Outcome State Fault Refusal :=
  s.hubCommand seq (.loadStep bank row col e)

/-- CLEAR_STEP naming an entry (R34). -/
def execClearStepEntry (seq bank row col : Byte) (s : State) : Host.Outcome State Fault Refusal :=
  s.hubCommand seq (.clearEntry bank row col)

/-- CLEAR_STEP naming a bank (R34). -/
def execClearStepBank (seq bank : Byte) (s : State) : Host.Outcome State Fault Refusal :=
  s.hubCommand seq (.clearBank bank)

/-- READ_STEP (R35). -/
def execReadStep (seq bank row col : Byte) (s : State) : Host.Outcome State Fault Refusal :=
  s.hubCommand seq (.readStep bank row col)

/-- LOAD_TABLE to the cell table (R15). -/
def execLoadTableCell (seq index : Byte) (value : Word) (s : State) : Host.Outcome State Fault Refusal :=
  s.hubCommand seq (.loadCell index value)

/-- LOAD_TABLE to the OCV table (R16). -/
def execLoadTableOcv (seq index : Byte) (voltage soc : Word) (s : State) : Host.Outcome State Fault Refusal :=
  s.hubCommand seq (.loadOcv index voltage soc)

/-- LOAD_TABLE to the derate table (R90). -/
def execLoadTableDerate (seq index : Byte) (temperature factor : Word) (s : State) :
    Host.Outcome State Fault Refusal :=
  s.hubCommand seq (.loadDerate index temperature factor)

/-- LOAD_TABLE to the guard table (R69). -/
def execLoadTableGuard (seq index : Byte) (value : Word) (s : State) : Host.Outcome State Fault Refusal :=
  s.hubCommand seq (.loadGuard index value)

/-- LOAD_TABLE to the limit table (R71). -/
def execLoadTableLimit (seq index : Byte) (value : Word) (s : State) : Host.Outcome State Fault Refusal :=
  s.hubCommand seq (.loadLimit index value)

/-- LOAD_TABLE to the balance table (R123). -/
def execLoadTableBalance (seq index : Byte) (value : Word) (s : State) : Host.Outcome State Fault Refusal :=
  s.hubCommand seq (.loadBalance index value)

/-- LOAD_TABLE to the route table (R175). -/
def execLoadTableRoute (seq index : Byte) (value : Word) (s : State) : Host.Outcome State Fault Refusal :=
  s.hubCommand seq (.loadRoute index value)

/-- READ_TABLE (R167). -/
def execReadTable (seq table index : Byte) (s : State) : Host.Outcome State Fault Refusal :=
  s.hubCommand seq (.readTable table index)

/-- LOCK (R73). -/
def execLock (seq : Byte) (s : State) : Host.Outcome State Fault Refusal :=
  s.hubCommand seq .lock

/-- START (R186, R187). -/
def execStart (seq bank row col : Byte) (s : State) : Host.Outcome State Fault Refusal :=
  s.hubCommand seq (.start bank row col)

/-- STOP (R189). -/
def execStop (seq : Byte) (s : State) : Host.Outcome State Fault Refusal :=
  s.hubCommand seq .stop

/-- SWAP (R36). -/
def execSwap (seq bank : Byte) (target : Option (Byte × Byte)) (s : State) : Host.Outcome State Fault Refusal :=
  s.hubCommand seq (.swap bank target)

/-- GOTO (R63). -/
def execGoto (seq row col : Byte) (s : State) : Host.Outcome State Fault Refusal :=
  s.hubCommand seq (.goto row col)

/-- OVERRIDE set (R82). -/
def execOverrideSet (seq : Byte) (s : State) : Host.Outcome State Fault Refusal :=
  s.hubCommand seq (.override 1)

/-- OVERRIDE clear (R82). -/
def execOverrideClear (seq : Byte) (s : State) : Host.Outcome State Fault Refusal :=
  s.hubCommand seq (.override 0)

/-- HOLD (R146). -/
def execHold (seq : Byte) (code : Option Word) (s : State) : Host.Outcome State Fault Refusal :=
  s.hubCommand seq (.hold code)

/-- RESUME with the disposition CONTINUE (R149, R150). -/
def execResumeContinue (seq : Byte) (s : State) : Host.Outcome State Fault Refusal :=
  s.hubCommand seq (.resume 0)

/-- RESUME with the disposition RETRY (R149, R150). -/
def execResumeRetry (seq : Byte) (s : State) : Host.Outcome State Fault Refusal :=
  s.hubCommand seq (.resume 1)

/-- RESUME with the disposition HOME (R149, R150). -/
def execResumeHome (seq : Byte) (s : State) : Host.Outcome State Fault Refusal :=
  s.hubCommand seq (.resume 2)

/-- RESUME with the disposition STEP (R149, R150). -/
def execResumeStep (seq row col : Byte) (s : State) : Host.Outcome State Fault Refusal :=
  s.hubCommand seq (.resumeStep row col)

/-- RESUME with the disposition STOP (R149, R153). -/
def execResumeStop (seq : Byte) (s : State) : Host.Outcome State Fault Refusal :=
  s.hubCommand seq (.resume 4)

/-- OFFER (R109). -/
def execOffer (seq : Byte) (voltage current : Word) (cls : Byte) (s : State) : Host.Outcome State Fault Refusal :=
  s.hubCommand seq (.offer voltage current cls)

/-- ACCEPT (R110). -/
def execAccept (seq : Byte) (s : State) : Host.Outcome State Fault Refusal :=
  s.hubCommand seq .accept

/-- WITHDRAW (R111). -/
def execWithdraw (seq : Byte) (s : State) : Host.Outcome State Fault Refusal :=
  s.hubCommand seq .withdraw

/-- SHIP (R112). -/
def execShip (seq : Byte) (s : State) : Host.Outcome State Fault Refusal :=
  s.hubCommand seq .ship

/-- BALANCE SHUTTLE (R135). -/
def execBalanceShuttle (seq cell : Byte) (amount : Option (Word × Byte)) (s : State) :
    Host.Outcome State Fault Refusal :=
  s.hubCommand seq (.shuttle cell amount)

/-- BALANCE BLEED (R136). -/
def execBalanceBleed (seq cell setting : Byte) (s : State) : Host.Outcome State Fault Refusal :=
  s.hubCommand seq (.bleed cell setting)

/-- BALANCE STOP (R137). -/
def execBalanceStop (seq : Byte) (s : State) : Host.Outcome State Fault Refusal :=
  s.hubCommand seq .balanceStop

/-- SET_CHARGE (R14). -/
def execSetCharge (seq cell : Byte) (content : ChargeArg) (s : State) : Host.Outcome State Fault Refusal :=
  s.hubCommand seq (.setCharge cell content)

/-- QUERY (R166). -/
def execQuery (seq selector argument part : Byte) (s : State) : Host.Outcome State Fault Refusal :=
  s.hubCommand seq (.query selector argument part)

end Sys2Proof.Machine
end

