-- ==== Sys2Proof/Machine/Timers.lean ====
section
/-! DEFINITION. The meanings of the timers' expiries: one definition per row. An expiry acts while its timer runs (log 3). -/

namespace Sys2Proof.Machine

/-- WAIT_LIMIT_EXPIRY (R159). -/
def execWaitLimitExpiry (s : State) : Host.Outcome State Fault Refusal := s.event State.expireWait

/-- NODE_TIMEOUT (R165). -/
def execNodeTimeout (n : NodeId) (s : State) : Host.Outcome State Fault Refusal := s.event fun t => t.expireNode n

/-- ANSWER_TIMEOUT (R117). -/
def execAnswerTimeout (s : State) : Host.Outcome State Fault Refusal := s.event State.expireAnswer

/-- STALENESS_EXPIRY (R6, R7, R77). -/
def execStalenessExpiry (x : TimedRecord) (s : State) : Host.Outcome State Fault Refusal :=
  s.event fun t => t.expireStaleness x

/-- REST_EXPIRY (R11). -/
def execRestExpiry (c : CellId) (s : State) : Host.Outcome State Fault Refusal := s.event fun t => t.expireRest c

/-- DWELL_EXPIRY (R58). -/
def execDwellExpiry (s : State) : Host.Outcome State Fault Refusal := s.event State.expireDwell

/-- TIME_LIMIT_EXPIRY (R132). -/
def execTimeLimitExpiry (s : State) : Host.Outcome State Fault Refusal := s.event State.expireTimeLimit

/-- COOLDOWN_EXPIRY (R134). -/
def execCooldownExpiry (s : State) : Host.Outcome State Fault Refusal := s.event State.expireCooldown

end Sys2Proof.Machine
end

