-- ==== Sys2Proof/Machine/Dispatch.lean ====
section
/-! DEFINITION. Dispatch: one arm per row of the table. -/

namespace Sys2Proof.Machine

def exec (i : Instr) (s : State) : Host.Outcome State Fault Refusal :=
  match i with
  | .powerOnOrRst => Sys2Proof.Machine.execPowerOnOrRst s
  | .rstRelease => Sys2Proof.Machine.execRstRelease s
  | .portUBadFrame => Sys2Proof.Machine.execPortUBadFrame s
  | .portDBadFrame => Sys2Proof.Machine.execPortDBadFrame s
  | .unfitFrame => Sys2Proof.Machine.execUnfitFrame s
  | .otherFrameOnPortU => Sys2Proof.Machine.execOtherFrameOnPortU s
  | .command dest src seq payload => Sys2Proof.Machine.execCommand dest src seq payload s
  | .reset seq => Sys2Proof.Machine.execReset seq s
  | .sample cell f fold => Sys2Proof.Machine.execSample cell f fold s
  | .input f => Sys2Proof.Machine.execInput f s
  | .stage f => Sys2Proof.Machine.execStage f s
  | .nodeReply node dest seq payload => Sys2Proof.Machine.execNodeReply node dest seq payload s
  | .loadStep seq bank row col entry => Sys2Proof.Machine.execLoadStep seq bank row col entry s
  | .clearStepEntry seq bank row col => Sys2Proof.Machine.execClearStepEntry seq bank row col s
  | .clearStepBank seq bank => Sys2Proof.Machine.execClearStepBank seq bank s
  | .readStep seq bank row col => Sys2Proof.Machine.execReadStep seq bank row col s
  | .loadTableCell seq index value => Sys2Proof.Machine.execLoadTableCell seq index value s
  | .loadTableOcv seq index voltage soc => Sys2Proof.Machine.execLoadTableOcv seq index voltage soc s
  | .loadTableDerate seq index temperature factor => Sys2Proof.Machine.execLoadTableDerate seq index temperature factor s
  | .loadTableGuard seq index value => Sys2Proof.Machine.execLoadTableGuard seq index value s
  | .loadTableLimit seq index value => Sys2Proof.Machine.execLoadTableLimit seq index value s
  | .loadTableBalance seq index value => Sys2Proof.Machine.execLoadTableBalance seq index value s
  | .loadTableRoute seq index value => Sys2Proof.Machine.execLoadTableRoute seq index value s
  | .readTable seq table index => Sys2Proof.Machine.execReadTable seq table index s
  | .lock seq => Sys2Proof.Machine.execLock seq s
  | .start seq bank row col => Sys2Proof.Machine.execStart seq bank row col s
  | .stop seq => Sys2Proof.Machine.execStop seq s
  | .swap seq bank target => Sys2Proof.Machine.execSwap seq bank target s
  | .goto seq row col => Sys2Proof.Machine.execGoto seq row col s
  | .overrideSet seq => Sys2Proof.Machine.execOverrideSet seq s
  | .overrideClear seq => Sys2Proof.Machine.execOverrideClear seq s
  | .hold seq code => Sys2Proof.Machine.execHold seq code s
  | .resumeContinue seq => Sys2Proof.Machine.execResumeContinue seq s
  | .resumeRetry seq => Sys2Proof.Machine.execResumeRetry seq s
  | .resumeHome seq => Sys2Proof.Machine.execResumeHome seq s
  | .resumeStep seq row col => Sys2Proof.Machine.execResumeStep seq row col s
  | .resumeStop seq => Sys2Proof.Machine.execResumeStop seq s
  | .offer seq voltage current cls => Sys2Proof.Machine.execOffer seq voltage current cls s
  | .accept seq => Sys2Proof.Machine.execAccept seq s
  | .withdraw seq => Sys2Proof.Machine.execWithdraw seq s
  | .ship seq => Sys2Proof.Machine.execShip seq s
  | .balanceShuttle seq cell amount => Sys2Proof.Machine.execBalanceShuttle seq cell amount s
  | .balanceBleed seq cell setting => Sys2Proof.Machine.execBalanceBleed seq cell setting s
  | .balanceStop seq => Sys2Proof.Machine.execBalanceStop seq s
  | .setCharge seq cell content => Sys2Proof.Machine.execSetCharge seq cell content s
  | .query seq selector argument part => Sys2Proof.Machine.execQuery seq selector argument part s
  | .unknownCommand dest src seq payload => Sys2Proof.Machine.execUnknownCommand dest src seq payload s
  | .nodeCommand node src seq payload => Sys2Proof.Machine.execNodeCommand node src seq payload s
  | .waitLimitExpiry => Sys2Proof.Machine.execWaitLimitExpiry s
  | .nodeTimeout node => Sys2Proof.Machine.execNodeTimeout node s
  | .answerTimeout => Sys2Proof.Machine.execAnswerTimeout s
  | .stalenessExpiry record => Sys2Proof.Machine.execStalenessExpiry record s
  | .restExpiry cell => Sys2Proof.Machine.execRestExpiry cell s
  | .dwellExpiry => Sys2Proof.Machine.execDwellExpiry s
  | .timeLimitExpiry => Sys2Proof.Machine.execTimeLimitExpiry s
  | .cooldownExpiry => Sys2Proof.Machine.execCooldownExpiry s
  | .portUFrameSent => Sys2Proof.Machine.execPortUFrameSent s
  | .portDFrameSent => Sys2Proof.Machine.execPortDFrameSent s

end Sys2Proof.Machine
end

