-- ==== Sys2Proof/Machine/Clock.lean ====
section
/-! DEFINITION. The hub's own time, which passes while no command waits (log 2): frames finish, timers that are due run out,
and otherwise a millisecond passes. -/

namespace Sys2Proof.Machine

/-- The answer timers that have run their 40 ms, as events (R115, R164). -/
def NodeEntry.due (e : NodeEntry) (n : NodeId) : List Instr :=
  match e with
  | .empty => []
  | .command _ _ ms => if ms ≥ Config.answerMs then [.nodeTimeout n] else []
  | .setpoint _ ms => if ms ≥ Config.answerMs then [.answerTimeout] else []

/-- The timers of the command unit that are due (R159, R163). -/
def CommandUnit.due (u : CommandUnit) : List Instr :=
  (if u.held.any (fun c => c.state = .waiting && (c.wait.getD 0) ≥ Config.waitMs) then [.waitLimitExpiry] else [])
    ++ u.nodes.m1.due .m1 ++ u.nodes.m2.due .m2 ++ u.nodes.m3.due .m3 ++ u.nodes.s4.due .s4

/-- The timers of the cell accounting unit that are due (R6, R7, R11). -/
def CellUnit.due (u : CellUnit) : List Instr :=
  (if u.records.one.staleness = some 0 then [.stalenessExpiry (.cell .one)] else [])
    ++ (if u.records.two.staleness = some 0 then [.stalenessExpiry (.cell .two)] else [])
    ++ (if u.input.staleness = some 0 then [.stalenessExpiry .input] else [])
    ++ (if u.records.one.rest = some 0 then [.restExpiry .one] else [])
    ++ (if u.records.two.rest = some 0 then [.restExpiry .two] else [])

/-- The timers of the balance unit that are due (R132, R134). -/
def Shuttle.due (x : Shuttle) : List Instr :=
  (if x.active && x.elapsed ≥ x.length then [.timeLimitExpiry] else [])
    ++ (if x.cooldown = some 0 then [.cooldownExpiry] else [])

/-- Every event that is due, in the order the clock takes them: the transmitters' completions, then the timers. DESIGN
CHOICE (log 2): the manual lets events that fall together be taken in any order. -/
def State.due (s : State) : List Instr :=
  (if s.link.sendingU.isSome then [.portUFrameSent] else [])
    ++ (if s.link.sendingD.isSome then [.portDFrameSent] else [])
    ++ s.cmd.due ++ s.cells.due
    ++ (if s.seqr.dwell = .running 0 then [.dwellExpiry] else [])
    ++ s.balance.shuttle.due

/-- A countdown a millisecond later. -/
def tickDown (o : Option Nat) : Option Nat := o.map (· - 1)

/-- A cell record's timers a millisecond later. -/
def CellRecord.tick (r : CellRecord) : CellRecord := { r with staleness := tickDown r.staleness, rest := tickDown r.rest }

/-- An answer timer a millisecond later. -/
def NodeEntry.tick : NodeEntry → NodeEntry
  | .empty => .empty
  | .command place seq ms => .command place seq (ms + 1)
  | .setpoint sent ms => .setpoint sent (ms + 1)

/-- The wait timer a millisecond later. -/
def HeldCommand.tick (c : HeldCommand) : HeldCommand := { c with wait := c.wait.map (· + 1) }

/-- The dwell timer a millisecond later: it runs down while running (R57). -/
def DwellTimer.tick : DwellTimer → DwellTimer
  | .running ms => .running (ms - 1)
  | .noDwell => .noDwell
  | .paused ms => .paused ms
  | .expired => .expired

/-- The shuttle's timers a millisecond later. -/
def Shuttle.tick (x : Shuttle) : Shuttle :=
  { x with elapsed := if x.active then x.elapsed + 1 else x.elapsed, cooldown := tickDown x.cooldown }

/-- One millisecond passes. -/
def State.tick (s : State) : State :=
  { s with
    cmd :=
      { s.cmd with
        held := s.cmd.held.map HeldCommand.tick
        nodes := ⟨s.cmd.nodes.m1.tick, s.cmd.nodes.m2.tick, s.cmd.nodes.m3.tick, s.cmd.nodes.s4.tick⟩ }
    cells :=
      { s.cells with
        records := ⟨s.cells.records.one.tick, s.cells.records.two.tick⟩
        input := { s.cells.input with staleness := tickDown s.cells.input.staleness } }
    seqr := { s.seqr with dwell := s.seqr.dwell.tick }
    balance := { s.balance with shuttle := s.balance.shuttle.tick } }

/-- The step with no command waiting: nothing while RST is held; else the first event that is due, or a millisecond. -/
def State.idle (s : State) : Host.Outcome State Fault Refusal :=
  if s.rst then .next s
  else
    match s.due with
    | [] => .next s.tick
    | i :: _ => exec i s

end Sys2Proof.Machine
end

