-- ==== Sys2Proof/WellFormed.lean ====
section
/-! DEFINITION. Which commands can reach the hub: the bounds the receivers and the readers of frames put on a command's
operands. -/

namespace Sys2Proof

/-- A payload fits a good frame (R171). -/
def payloadFits (payload : List Byte) : Bool := payload.length ≤ Config.maxPayload

/-- A COMMAND that is not the hub's RESET (R156). -/
def isCommand (dest : Address) (payload : List Byte) : Bool := payloadFits payload && !Machine.isReset dest payload

/-- A COMMAND that R161 answers UNKNOWN: no name or an unknown one to the hub, or an address of 5 to 15. -/
def isUnknown (dest : Address) (payload : List Byte) : Bool :=
  if dest = Machine.hubAddress then Machine.parseCommand payload = .unknown else (Machine.nodeOf dest).isNone

/-- A well-formed command: what the row's frame or event can carry. -/
def Instr.wellFormed : Instr → Bool
  | .powerOnOrRst => true
  | .rstRelease => true
  | .portUBadFrame => true
  | .portDBadFrame => true
  | .unfitFrame => true
  | .otherFrameOnPortU => true
  | .command dest _ _ payload => isCommand dest payload
  | .reset _ => true
  | .sample _ _ _ => true
  | .input _ => true
  | .stage _ => true
  | .nodeReply _ _ _ payload => payloadFits payload
  | .loadStep _ _ _ _ _ => true
  | .clearStepEntry _ _ _ _ => true
  | .clearStepBank _ _ => true
  | .readStep _ _ _ _ => true
  | .loadTableCell _ _ _ => true
  | .loadTableOcv _ _ _ _ => true
  | .loadTableDerate _ _ _ _ => true
  | .loadTableGuard _ _ _ => true
  | .loadTableLimit _ _ _ => true
  | .loadTableBalance _ _ _ => true
  | .loadTableRoute _ _ _ => true
  | .readTable _ _ _ => true
  | .lock _ => true
  | .start _ _ _ _ => true
  | .stop _ => true
  | .swap _ _ _ => true
  | .goto _ _ _ => true
  | .overrideSet _ => true
  | .overrideClear _ => true
  | .hold _ _ => true
  | .resumeContinue _ => true
  | .resumeRetry _ => true
  | .resumeHome _ => true
  | .resumeStep _ _ _ => true
  | .resumeStop _ => true
  | .offer _ _ _ _ => true
  | .accept _ => true
  | .withdraw _ => true
  | .ship _ => true
  | .balanceShuttle _ _ _ => true
  | .balanceBleed _ _ _ => true
  | .balanceStop _ => true
  | .setCharge _ _ _ => true
  | .query _ _ _ _ => true
  | .unknownCommand dest _ _ payload => isCommand dest payload && isUnknown dest payload
  | .nodeCommand _ _ _ payload => payloadFits payload
  | .waitLimitExpiry => true
  | .nodeTimeout _ => true
  | .answerTimeout => true
  | .stalenessExpiry _ => true
  | .restExpiry _ => true
  | .dwellExpiry => true
  | .timeLimitExpiry => true
  | .cooldownExpiry => true
  | .portUFrameSent => true
  | .portDFrameSent => true

end Sys2Proof
end

