-- ==== Sys2Proof/Safety.lean ====
section
/-! DEFINITION. What counts as a safe hub: the laws of the device the manual names, as conditions on a state, and the shapes
of state and result the claims speak of. -/

namespace Sys2Proof.Machine

/-! ## Shapes of state -/

/-- Out of reset, with no command waiting to issue. -/
def State.quiet (s : State) : Bool := !s.rst && s.head.isNone

/-- Quiet, with a place free: a command to the hub is accepted and becomes the head at once (R155, R156). -/
def State.ready (s : State) : Bool := s.quiet && decide (s.cmd.held.length < Config.heldMax)

/-- The processor's command `k` as a held command, in the place it takes (R155). -/
def State.heldAs (s : State) (seq : Byte) (k : HubCommand) (st : HeldState) : HeldCommand :=
  ⟨s.freePlace, hubAddress, processorAddress, seq, encodeCommand k, st, none⟩

/-- `s` with a reply placed at the back of the reply queue (R162). -/
def State.withReply (s : State) (r : Reply) : State := { s with out.replies := s.out.replies ++ [r] }

/-- `s` with a command accepted and answered: the arbiter acts at the arrival, the command is held as REPLIED, its reply
stands at the back of the reply queue, and the arbiter acts again (R155, R162, R180). -/
def State.replyTo (s : State) (c : HeldCommand) (status : Status) (results : List Field) : State :=
  ((s.arbitrate.withHeld (s.cmd.held ++ [c])).withReply ⟨some c.place, status, c.seq, results⟩).arbitrate

/-- `s` with the processor's command `k` accepted and answered. -/
def State.replied (s : State) (seq : Byte) (k : HubCommand) (status : Status) (results : List Field) : State :=
  s.replyTo (s.heldAs seq k .replied) status results

/-- The row of the table that a command to the hub with sequence number `seq` is; none for a code that names no action. -/
def HubCommand.row (k : HubCommand) (seq : Byte) : Option Instr :=
  match k with
  | .loadStep bank row col e => some (.loadStep seq bank row col e)
  | .clearEntry bank row col => some (.clearStepEntry seq bank row col)
  | .clearBank bank => some (.clearStepBank seq bank)
  | .readStep bank row col => some (.readStep seq bank row col)
  | .loadCell i v => some (.loadTableCell seq i v)
  | .loadOcv i v soc => some (.loadTableOcv seq i v soc)
  | .loadDerate i t d => some (.loadTableDerate seq i t d)
  | .loadGuard i v => some (.loadTableGuard seq i v)
  | .loadLimit i v => some (.loadTableLimit seq i v)
  | .loadBalance i v => some (.loadTableBalance seq i v)
  | .loadRoute i v => some (.loadTableRoute seq i v)
  | .readTable table i => some (.readTable seq table i)
  | .lock => some (.lock seq)
  | .start bank row col => some (.start seq bank row col)
  | .stop => some (.stop seq)
  | .swap bank target => some (.swap seq bank target)
  | .goto row col => some (.goto seq row col)
  | .override code => if code = 1 then some (.overrideSet seq) else if code = 0 then some (.overrideClear seq) else none
  | .hold code => some (.hold seq code)
  | .resume d =>
    if d = 0 then some (.resumeContinue seq) else if d = 1 then some (.resumeRetry seq)
    else if d = 2 then some (.resumeHome seq) else if d = 4 then some (.resumeStop seq) else none
  | .resumeStep row col => some (.resumeStep seq row col)
  | .offer v i cls => some (.offer seq v i cls)
  | .accept => some (.accept seq)
  | .withdraw => some (.withdraw seq)
  | .ship => some (.ship seq)
  | .shuttle cell amount => some (.balanceShuttle seq cell amount)
  | .bleed cell setting => some (.balanceBleed seq cell setting)
  | .balanceStop => some (.balanceStop seq)
  | .setCharge cell content => some (.setCharge seq cell content)
  | .query selector argument part => some (.query seq selector argument part)
  | .badArguments => none
  | .unknown => none

/-- The frames on port D: the one being sent, then those that wait (R170). -/
def LinkUnit.portD (l : LinkUnit) : List Frame := l.sendingD.toList ++ l.queueD

/-- Every block but the ports, the output queues and the command unit as it was. -/
abbrev State.sameBlocks (s t : State) : Prop :=
  t.rst = s.rst ∧ t.fold = s.fold ∧ t.gate = s.gate ∧ t.op = s.op ∧ t.routes = s.routes ∧ t.cells = s.cells
    ∧ t.seqr = s.seqr ∧ t.guard = s.guard ∧ t.path = s.path ∧ t.balance = s.balance ∧ t.hold = s.hold

/-- What no event but a SAMPLE, an INPUT, LOAD_STEP, CLEAR_STEP, a LOAD_TABLE or a reset touches: the lines from outside, the
tables, the banks and the cell accounting unit. -/
abbrev State.sameTables (s t : State) : Prop :=
  t.rst = s.rst ∧ t.fold = s.fold ∧ t.routes = s.routes ∧ t.cells = s.cells ∧ t.seqr.bankA = s.seqr.bankA
    ∧ t.seqr.bankB = s.seqr.bankB ∧ t.guard.table = s.guard.table ∧ t.guard.limits = s.guard.limits
    ∧ t.path.derate = s.path.derate ∧ t.balance.table = s.balance.table

/-- The designated bank runs: the stored step is one of its filled profile entries, and its override row is complete
(R30). -/
def State.profiled (s : State) : Bool :=
  match s.seqr.designation, s.seqr.stored with
  | some id, some a =>
    a.bank = id && a.row ≠ overrideRow && (s.entryAt a).isSome && bankComplete (s.seqr.bank id)
  | _, _ => false

/-- The SETPOINT `p`, called for in `s`, as it stands in `t`: with NODE4 free it is sent, which moves GATE, and otherwise it is in
the next-setpoint slot, where it replaces what was there (R108, R115). -/
abbrev State.calledFor (s t : State) (p : Setpoint) : Prop :=
  (s.cmd.nodes.get .s4 = .empty →
      t.path.slot = s.path.slot
        ∧ t.gate = (decide (p.composedIn = .run) && decide (p.mode = .charge) && decide (p.charge > 0))
        ∧ ∃ q, t.path.lastSetpoint = some ⟨p, q⟩ ∧ t.cmd.nodes.get .s4 = .setpoint ⟨p, q⟩ 0
            ∧ setpointFrame p q ∈ t.link.portD)
    ∧ (s.cmd.nodes.get .s4 ≠ .empty →
        t.path.slot = some p ∧ t.path.lastSetpoint = s.path.lastSetpoint
          ∧ t.cmd.nodes.get .s4 = s.cmd.nodes.get .s4)

/-- A computation's SETPOINT in RUN: its current and mode with the shuttle as it stands in `t`, called for in `s`; the
computation is recorded (R100, R107, R114). -/
abbrev State.computedFor (s t : State) (k : Computation) : Prop :=
  t.path.computation = some k
    ∧ s.calledFor t
        { mode := k.mode, charge := k.iSet
          dir :=
            if t.balance.shuttle.active then
              (match t.balance.shuttle.source with
               | some .one => .oneToTwo
               | some .two => .twoToOne
               | none => .off)
            else .off
          current := if t.balance.shuttle.active then t.balance.shuttleCurrent else 0
          composedIn := .run }

/-- The address that governs: the stored step with an empty cause set, and otherwise its bank's override-row entry at the
lowest column of the set (R50, R81). -/
abbrev Causes.governs (g : Causes) (stored a : StepAddr) : Prop :=
  (g = Causes.none ∧ a = stored)
    ∨ ∃ col : Fin 8, g.has col = true ∧ (∀ j, j < col → g.has j = false) ∧ a = ⟨stored.bank, 11, col⟩

/-- From `s` to `t`, the hand-over of the last round with the entry `e` at `a` and the stored step's flags: the hand-over
record, the computation made of it, the balance unit's decisions with its mode, and the SETPOINT composed from both (R52, R88,
R125). With no round yet it says nothing. -/
abbrev State.handedOver (s t : State) (a : StepAddr) (e : StepEntry) : Prop :=
  ∀ r, s.cells.lastRound = some r →
    let h : HandOver :=
      { summary := some r, addr := a, limit := e.limit, ceiling := e.ceiling, band := e.band, path := e.path, gate := e.gate
        column := if a.row.val = 11 then some a.col else none, t := t.seqr.t, d := t.seqr.d }
    let k := State.compute { s with path.handOver := some h }
    t.path.handOver = some h
      ∧ t.balance = (s.balanceDecision r e.permission (decide (a.row.val = 11)) k.mode).balance ∧ s.computedFor t k

/-- From `s` in RUN to `t`, an override evaluation over the causes that stand in `t`: the dwell timer paused, the effective step
the override-row entry that governs, and the last round handed over with it, or nothing where there is none; the rest of the
sequencer as it was (R47, R53, R80, R81). -/
abbrev State.overridden (s t : State) : Prop :=
  ∃ stored a e, s.seqr.stored = some stored ∧ t.guard.causes.governs stored a ∧ a.row.val = 11 ∧ s.entryAt a = some e
    ∧ t.op = .run ∧ t.hold = s.hold
    ∧ t.seqr
        = { s.seqr with
            effective := some a
            dwell :=
              match s.seqr.dwell with
              | .running ms => .paused ms
              | w => w }
    ∧ s.handedOver t a e
    ∧ (s.cells.lastRound = none →
        t.path = s.path ∧ t.balance = s.balance ∧ t.gate = s.gate ∧ t.cmd.nodes = s.cmd.nodes
          ∧ t.link.portD = s.link.portD)

/-- From `s` to `t` in RUN, the evaluation at a START or a RESUME: the effective step, stored or override, and the last round
handed over with it, or with none a setpoint computed from the hand-over record as it stands (R89, R151, R187). -/
abbrev State.entersRun (s t : State) : Prop :=
  ∃ stored a e, t.seqr.stored = some stored ∧ t.guard.causes.governs stored a ∧ t.entryAt a = some e
    ∧ t.seqr.effective = some a ∧ s.handedOver t a e
    ∧ (s.cells.lastRound = none →
        t.path.handOver = s.path.handOver ∧ t.balance = s.balance ∧ s.computedFor t s.compute)

/-- The SETPOINT composed outside RUN: charge 0, shuttle off, and SHIP in CONFIG with ship mode set, else ADAPTER or BATTERY by
input presence (R107). -/
abbrev zeroSetpoint (op : OpState) (ship present : Bool) : Setpoint :=
  ⟨if op = .config ∧ ship = true then .ship else if present then .adapter else .battery, 0, .off, 0, op⟩

/-! ## Laws of the device -/

/-- Nothing that could go on is left standing: no frame waits while port U is idle, and the head of the command queue waits
for a reservation that is held, with its wait timer running (R158, R159, R180). Places are distinct (log 15). -/
abbrev State.settled (s : State) : Prop :=
  (s.link.sendingU = none → s.out = ⟨[], [], []⟩)
    ∧ (∀ c ∈ s.head, (s.blockedOn c).isSome ∧ c.wait.isSome)
    ∧ (s.cmd.held.map (·.place)).Nodup

/-- GATE is high in RUN alone, and only while the last SETPOINT sent is CHARGE above 0 (R108). -/
abbrev State.gateLaw (s : State) : Prop :=
  s.gate = true →
    s.op = .run ∧ ∃ p ∈ s.path.lastSetpoint, p.setpoint.mode = .charge ∧ p.setpoint.charge > 0

/-- The setpoint in the slot was composed in the state in force, outside RUN with charge 0 and shuttle off, and waits only
behind what holds NODE4 (R107, R108, R115). -/
abbrev State.slotLaw (s : State) : Prop :=
  ∀ p ∈ s.path.slot,
    p.composedIn = s.op ∧ s.reserved (.node .s4) = true
      ∧ (s.op ≠ .run → p.charge = 0 ∧ p.dir = .off ∧ p.current = 0)

/-- The shuttle and the bleeds keep apart, and outside RUN neither is on (R128, R138). -/
abbrev State.balanceLaw (s : State) : Prop :=
  (s.balance.shuttle.active = true → s.anyBleed = false)
    ∧ (s.balance.bleeds.one.on && s.balance.bleeds.two.on) = false
    ∧ (s.op ≠ .run → s.balance.shuttle.active = false ∧ s.anyBleed = false)

/-- What belongs to a running profile is gone outside it: a pending hold stands in HELD alone, the cause set is empty in
CONFIG, and swaps and gotos are pending in RUN alone (R32, R64, R74, R142, R143). In RUN and HELD the designated bank runs
(R30). -/
abbrev State.profileLaw (s : State) : Prop :=
  (s.op ≠ .held → s.hold.pendingHold = none)
    ∧ (s.op = .config → s.guard.causes = Causes.none ∧ s.guard.hostReq = false)
    ∧ (s.op ≠ .run → s.seqr.swap = none ∧ s.seqr.goto = none)
    ∧ (s.op ≠ .config → s.profiled = true)

/-- The place of the held command an entry of the node-outstanding table stands for (R163). -/
def NodeEntry.place? : NodeEntry → Option Nat
  | .command place _ _ => some place
  | .empty => none
  | .setpoint _ _ => none

/-- The places of the commands that the frames on their way to port U answer: replies, forwarded node replies, and the frame
being sent (R155, R164). -/
def State.answering (s : State) : List Nat :=
  s.out.replies.filterMap (·.answers) ++ s.out.forward.filterMap (·.answers)
    ++ s.link.sendingU.toList.filterMap (·.answers)

/-- Each held command is answered for once: places are distinct (log 15), no two frames answer one command, and each answers a
held command that is REPLIED; an entry of the node-outstanding table stands for a held command AT_NODE of its node, and the
pending swap for one ISSUED (R155, R161, R163, R164). -/
abbrev State.answerLaw (s : State) : Prop :=
  (s.cmd.held.map (·.place)).Nodup ∧ s.answering.Nodup
    ∧ (∀ p ∈ s.answering, ∃ c ∈ s.cmd.held, c.place = p ∧ c.state = .replied)
    ∧ (∀ n ∈ [NodeId.m1, .m2, .m3, .s4], ∀ p ∈ (s.cmd.nodes.get n).place?,
        ∃ c ∈ s.cmd.held, c.place = p ∧ c.state = .atNode ∧ nodeOf c.dest = some n)
    ∧ (∀ w ∈ s.seqr.swap, ∃ c ∈ s.cmd.held, c.place = w.place ∧ c.state = .issued)

/-- The queues keep their bounds: four held commands, one alert of each kind, five replies, of which one at most is the RESET
reply, and eight forwarded frames, among which every node REPLY answers a command (R156, R162, R178, R179). -/
abbrev State.queueLaw (s : State) : Prop :=
  s.cmd.held.length ≤ Config.heldMax ∧ (s.out.alerts.map (·.kind)).Nodup
    ∧ s.out.replies.length ≤ 5 ∧ (s.out.replies.filter fun r => r.answers.isNone).length ≤ 1
    ∧ s.out.forward.length ≤ Config.forwardMax ∧ (∀ u ∈ s.out.forward, u.nodeReply = true → u.answers.isSome)
    ∧ s.answerLaw

end Sys2Proof.Machine
end

