-- ==== Sys2Proof/Certificates/Slice0/Obligations.lean ====
section
/-! DEFINITION. The statements for the provers. `State.replied s' seq k status results` reads: the command `k` was accepted and
its reply placed, and the hub's blocks stand as in `s'`; an equation with it is the whole next state, so it is its own frame. -/

section

open Sys2Proof Sys2Proof.Machine

/-! ## The queue, the RST line and port U -/

/-- A step takes the command at the front of the queue. With none waiting the hub's own time passes: nothing while RST is held;
the first event that is due, a frame's end or a timer's, if one is; otherwise one millisecond, in which running timers move and
nothing else. The queue and the step without a command are the model's own (log 1, log 2). -/
def Obligations.StepTakesFront : Prop :=
  (∀ (c : Instr) (s : State) (rest : List Instr),
      step { s with pending := c :: rest } = exec c { s with pending := rest })
    ∧ ∀ s : State, s.pending = [] →
      (s.rst = true → step s = .next s)
        ∧ (∀ i rest, s.rst = false → s.due = i :: rest → step s = exec i s)
        ∧ (.portUFrameSent ∈ s.due ↔ s.link.sendingU.isSome) ∧ (.portDFrameSent ∈ s.due ↔ s.link.sendingD.isSome)
        ∧ (.waitLimitExpiry ∈ s.due ↔ ∃ c ∈ s.cmd.held, c.state = .waiting ∧ ∃ ms, c.wait = some ms ∧ ms ≥ 250)
        ∧ (∀ n, .nodeTimeout n ∈ s.due ↔ ∃ place q ms, s.cmd.nodes.get n = .command place q ms ∧ ms ≥ 40)
        ∧ (.answerTimeout ∈ s.due ↔ ∃ n p ms, s.cmd.nodes.get n = .setpoint p ms ∧ ms ≥ 40)
        ∧ (∀ c, .stalenessExpiry (.cell c) ∈ s.due ↔ (s.cell c).staleness = some 0)
        ∧ (.stalenessExpiry .input ∈ s.due ↔ s.cells.input.staleness = some 0)
        ∧ (∀ c, .restExpiry c ∈ s.due ↔ (s.cell c).rest = some 0)
        ∧ (.dwellExpiry ∈ s.due ↔ s.seqr.dwell = .running 0)
        ∧ (.timeLimitExpiry ∈ s.due ↔ s.balance.shuttle.active = true ∧ s.balance.shuttle.elapsed ≥ s.balance.shuttle.length)
        ∧ (.cooldownExpiry ∈ s.due ↔ s.balance.shuttle.cooldown = some 0)
        ∧ (s.rst = false → s.due = [] →
          step s
            = .next
                { s with
                  cmd.held := s.cmd.held.map fun c => { c with wait := c.wait.map (· + 1) }
                  cmd.nodes :=
                    (let later : NodeEntry → NodeEntry
                      | .empty => .empty
                      | .command place q ms => .command place q (ms + 1)
                      | .setpoint p ms => .setpoint p (ms + 1)
                     ⟨later s.cmd.nodes.m1, later s.cmd.nodes.m2, later s.cmd.nodes.m3, later s.cmd.nodes.s4⟩)
                  cells.records :=
                    (let later (r : CellRecord) : CellRecord :=
                      { r with staleness := r.staleness.map (· - 1), rest := r.rest.map (· - 1) }
                     ⟨later s.cells.records.one, later s.cells.records.two⟩)
                  cells.input.staleness := s.cells.input.staleness.map (· - 1)
                  seqr.dwell := match s.seqr.dwell with | .running ms => .running (ms - 1) | w => w
                  balance.shuttle :=
                    { s.balance.shuttle with
                      elapsed := if s.balance.shuttle.active then s.balance.shuttle.elapsed + 1 else s.balance.shuttle.elapsed
                      cooldown := s.balance.shuttle.cooldown.map (· - 1) } })

/-- Power-on and RST put every block at its power-on values, written out field by field (R185 and the reset tables). What is
kept, the waiting commands and the level of the FOLD input, is the model's (log 5, log 6). -/
def Obligations.PowerOnSetsEveryBlock : Prop :=
  ∀ s : State,
    let record : CellRecord :=
      { monitor := .absent, staleness := none, lastSeq := none, voltage := none, temperature := none, current := 0
        balance := 0, interval := 0, bleeding := false, fault := false, charge := 0, soc := 0, known := false
        rest := some 900000, rested := false, breach := ⟨false, false, false⟩, contribution := none }
    let plain : RouteEntry := ⟨true, .plain, 1, 0⟩
    let off : RouteEntry := ⟨false, .off, 1, 0⟩
    exec .powerOnOrRst s
      = .next
          { pending := s.pending, rst := true, fold := s.fold, gate := false, op := .config
            link := { badCount := 0, seqU := 0, seqD := 0, sendingU := none, sendingD := none, queueD := [] }
            routes := #v[plain, off, off, plain, off, off, off, plain, off, off, off, ⟨true, .off, 1, 0⟩]
            out := { alerts := [], replies := [], forward := [] }
            cmd :=
              { held := [], nodes := ⟨.empty, .empty, .empty, .empty⟩, late := ⟨0, 0, 0, 0⟩, overrun := false
                discards := 0 }
            cells :=
              { records := ⟨record, record⟩
                input :=
                  { monitor := .absent, staleness := none, lastSeq := none, adapter := 0, current := 0, vsys := 0, isys := 0
                    interval := 0 }
                table := #v[0, 0, 50, 900, 30], ocv := ⟨Vector.replicate 16 ⟨0, 0⟩, false⟩, lastRound := none }
            seqr :=
              { bankA := Vector.replicate 96 none, bankB := Vector.replicate 96 none, designation := none, swap := none
                stored := none, t := false, d := false, firstEval := false, lastTest := none, dwell := .noDwell
                goto := none, effective := none }
            guard :=
              { table := #v[4480, 3000, 450, 0, 150, 4500, 500, 90], limits := #v[4550, 2500, 600, 5000, 6000, 200]
                lock := false, causes := ⟨false, false, false, false, false, false, false, false⟩, hostReq := false
                linkMark := false, changes := 0 }
            path :=
              { derate := ⟨Vector.replicate 8 ⟨0, 0⟩, false⟩, handOver := none, computation := none, present := false
                ship := false, pendingOffer := none, acceptedOffer := none, lastSetpoint := none, slot := none
                stage := none, silent := 0, overdue := false }
            balance :=
              { table := #v[20, 5, 10, 4300, 1000, 900, 60], bleeds := ⟨⟨false, .none, 0⟩, ⟨false, .none, 0⟩⟩
                shuttle :=
                  { active := false, origin := .none, source := none, lead := 0, amount := 0, remaining := 0
                    transferred := 0, elapsed := 0, length := 0, cooldown := none, endReason := .none
                    lastTransferred := 0, permission := none, overrideMark := false } }
            hold := { record := none, pendingHold := none } }

/-- While RST is held asserted the hub keeps its power-on values (R185), so every row but RST itself leaves the state as it
is; at the release its first frame on port D is the SETPOINT BATTERY, charge 0, shuttle off, numbered 0 (R121, R185). -/
def Obligations.ReleaseSendsZeroSetpoint : Prop :=
  (∀ (i : Instr) (s : State), s.rst = true → i ≠ .powerOnOrRst → i ≠ .rstRelease → exec i s = .next s)
    ∧ ∀ (l : List Instr) (fold : Bool), ∃ t,
        exec .rstRelease { State.reset with pending := l, fold := fold } = .next t
          ∧ t.rst = false ∧ t.gate = false ∧ t.op = .config
          ∧ t.link = ⟨0, 0, 1, none, some ⟨4, 0, 4, 0, [1, 0, 0, 0, 0, 0]⟩, []⟩
          ∧ t.cmd.nodes.get .s4 = .setpoint ⟨⟨.battery, 0, .off, 0, .config⟩, 0⟩ 0
          ∧ t.path.lastSetpoint = some ⟨⟨.battery, 0, .off, 0, .config⟩, 0⟩
          ∧ t.cells = State.reset.cells ∧ t.seqr = State.reset.seqr ∧ t.guard = State.reset.guard
          ∧ t.balance = State.reset.balance ∧ t.hold = State.reset.hold ∧ t.routes = State.reset.routes
          ∧ t.out = ⟨[], [], []⟩ ∧ t.pending = l ∧ t.fold = fold

/-- A COMMAND is accepted behind what waits, with a wait timer only at the head, or discarded with four held; a bad frame on
port U and a frame of another kind do nothing (R155, R156, R159, R171). -/
def Obligations.CommandAcceptedOrDiscarded : Prop :=
  ∀ (s : State) (dest src : Address) (seq : Byte) (payload : List Byte), s.rst = false → s.settled →
    let c : HeldCommand := ⟨s.freePlace, dest, src, seq, payload, .waiting, none⟩
    exec .portUBadFrame s = .next s
      ∧ exec .otherFrameOnPortU s = .next s
      ∧ (isReset dest payload = false → s.cmd.held.length ≥ 4 →
          exec (.command dest src seq payload) s
            = .next { s with cmd.overrun := true, cmd.discards := min 255 (s.cmd.discards + 1) })
      ∧ (isReset dest payload = false → s.cmd.held.length < 4 → s.head.isSome →
          exec (.command dest src seq payload) s = .next (s.withHeld (s.cmd.held ++ [c])))
      ∧ (isReset dest payload = false → s.cmd.held.length < 4 → s.head = none → (s.blockedOn c).isSome →
          exec (.command dest src seq payload) s = .next (s.withHeld (s.cmd.held ++ [{ c with wait := some 0 }])))

/-- A COMMAND to the hub with no name or an unknown one, or to an address of 5 to 15, is answered UNKNOWN at issue; one with a
known name and arguments that do not match its layout is answered BAD_ENTRY, with what its rule gives every reply (R42, R149
and the table rules; log 12, log 33); and one that spells a command, or goes to a node, acts as that
command's row does (R161, R164). Nothing else changes. -/
def Obligations.UnknownAnswered : Prop :=
  (∀ (s : State) (dest src : Address) (seq : Byte) (payload : List Byte), s.ready = true →
      isReset dest payload = false → isUnknown dest payload = true →
      exec (.unknownCommand dest src seq payload) s
        = .next (s.replyTo ⟨s.freePlace, dest, src, seq, payload, .replied, none⟩ .unknown []))
    ∧ (∀ (s : State) (src : Address) (seq name : Byte) (args : List Byte), s.ready = true →
        parseCommand (name :: args) = .badArguments →
        let c : HeldCommand := ⟨s.freePlace, hubAddress, src, seq, name :: args, .replied, none⟩
        let refused (results : List Field) : Prop :=
          exec (.command hubAddress src seq (name :: args)) s = .next (s.replyTo c .badEntry results)
        s.blockedOn c = none →
          (name = 9 → refused [.bank s.seqr.designation, .step s.seqr.stored])
            ∧ (name = 13 →
                refused
                  ([.byte (match args with | d :: _ => d.toNat | [] => 255), .byte s.op.code, .step s.seqr.stored]
                    ++ optional none (fun h => [.byte h.cause.kind.code, .byte h.cause.source.code] ++ h.cause.value.fields)
                        HoldRecord.blank))
            ∧ (name = 4 ∨ name = 5 →
                (args.head? = some 1 → refused [.mark s.cells.ocv.valid])
                ∧ (args.head? = some 2 → refused [.mark s.path.derate.valid])
                ∧ (args.head? = some 4 →
                    refused
                      [.mark s.guard.lock, .mark (!decide (s.guard.softOv < s.guard.hardOv)),
                       .mark (!decide (s.guard.softUv > s.guard.hardUv)), .mark (!decide (s.guard.chgTmax < s.guard.hardOt))])
                ∧ (args.head? = some 5 →
                    (∀ k : Fin 7, args[1]?.map BitVec.toNat = some k.val →
                      refused
                        [.word s.balance.table[k], .mark (decide (s.balance.shuttleStop < s.balance.shuttleStart))])
                    ∧ ((∀ b, args[1]? = some b → b.toNat ≥ 7) →
                      refused [.mark (decide (s.balance.shuttleStop < s.balance.shuttleStart))]))
                ∧ ((∀ b, args.head? = some b → b ≠ 1 ∧ b ≠ 2 ∧ b ≠ 4 ∧ b ≠ 5) → refused []))
            ∧ (name ≠ 4 → name ≠ 5 → name ≠ 9 → name ≠ 13 → refused []))
    ∧ (∀ (s : State) (src : Address) (seq : Byte) (payload : List Byte),
        (∀ n, exec (.command (nodeAddress n) src seq payload) s = exec (.nodeCommand n src seq payload) s)
          ∧ ∀ dest, exec (.command dest src seq payload) s = exec (.unknownCommand dest src seq payload) s)
    ∧ ∀ (s : State) (seq : Byte) (k : HubCommand) (i : Instr), k.row seq = some i →
        exec (.command hubAddress processorAddress seq (encodeCommand k)) s = exec i s

/-- A COMMAND to a node whose reservation is free is forwarded as received and takes the node's entry (R163, R164). -/
def Obligations.NodeCommandForwarded : Prop :=
  ∀ (s : State) (n : NodeId) (src : Address) (seq : Byte) (payload : List Byte), s.ready = true →
    s.cmd.nodes.get n = .empty →
    ∃ t, exec (.nodeCommand n src seq payload) s = .next t
      ∧ t.cmd.held = s.cmd.held ++ [⟨s.freePlace, nodeAddress n, src, seq, payload, .atNode, none⟩]
      ∧ t.cmd.nodes = s.cmd.nodes.set n (.command s.freePlace seq 0)
      ∧ t.link.portD = s.link.portD ++ [⟨nodeAddress n, src, kindCommand, seq, payload⟩]
      ∧ t.link.seqD = s.link.seqD ∧ s.sameBlocks t

/-- The soft reset, block by block, what it keeps, and the frames and the reply it sends (R23, R43, R67, R86, R103, R121, R140,
R154, R168, R172, R176); a STAGE report that follows answers its zero setpoint, whatever timed out before it (R169). That the
SETPOINT goes before the BLEED OFF frames is the model's choice (log 11), as are the mark of an overdue answer (log 29) and the
report's applied current read without a sign (log 39). That an idle port U takes the reply at the same event is an inference
(log 43), and so is the one setpoint where a shuttle ends (log 44). -/
def Obligations.SoftReset : Prop :=
  ∀ (s : State) (seq : Byte), s.rst = false → ∃ t, exec (.reset seq) s = .next t
    ∧ t.op = .config ∧ t.gate = false ∧ t.fold = s.fold ∧ t.rst = false ∧ t.pending = s.pending
    ∧ t.link.badCount = s.link.badCount ∧ t.link.seqD = s.link.seqD + 3
    ∧ t.link.seqU = (if s.link.sendingU = none then s.link.seqU + 1 else s.link.seqU)
    ∧ (∀ u, s.link.sendingU = some u → t.link.sendingU = some { u with answers := none })
    ∧ t.cmd.held = [] ∧ t.cmd.nodes.get .m1 = .empty ∧ t.cmd.nodes.get .m2 = .empty ∧ t.cmd.nodes.get .m3 = .empty
    ∧ t.cmd.late = s.cmd.late ∧ t.cmd.discards = s.cmd.discards
    ∧ (let p : Setpoint := ⟨if s.path.present then .adapter else .battery, 0, .off, 0, .config⟩
       t.cmd.nodes.get .s4 = .setpoint ⟨p, s.link.seqD⟩ 0
        ∧ t.link.portD
            = s.link.portD
              ++ [setpointFrame p s.link.seqD, bleedFrame .one false (s.link.seqD + 1),
                  bleedFrame .two false (s.link.seqD + 2)]
        ∧ t.path
            = { s.path with handOver := none, computation := none, ship := false, pendingOffer := none, slot := none,
                            overdue := false, lastSetpoint := some ⟨p, s.link.seqD⟩ })
    ∧ (∀ f : StageFrame, s.routes[stageRoute].use = true →
        ∃ u, exec (.stage f) t = .next u ∧ u.cmd.nodes.get .s4 = .empty
          ∧ u.path.stage = some ⟨f.applied.toNat, f.mode, f.shuttle, f.fault, f.seq, true⟩)
    ∧ (let r : Reply := ⟨none, .ok, seq, [.byte s.op.code, .byte s.cmd.held.length]⟩
       t.out.alerts = [] ∧ t.out.forward = []
        ∧ (s.link.sendingU = none →
            t.out.replies = [] ∧ t.cmd.overrun = false
              ∧ t.link.sendingU = some ⟨⟨15, 0, 7, s.link.seqU, r.payload s.cmd.overrun⟩, none⟩)
        ∧ (s.link.sendingU.isSome → t.out.replies = [r] ∧ t.cmd.overrun = s.cmd.overrun))
    ∧ (∀ i : Fin 12, t.routes[i] = { s.routes[i] with counter := 0 })
    ∧ t.cells
        = { s.cells with
            records :=
              ⟨{ s.cells.records.one with breach := Breach.none, contribution := none },
               { s.cells.records.two with breach := Breach.none, contribution := none }⟩ }
    ∧ t.seqr
        = { s.seqr with
            swap := none, stored := none, t := false, d := false, firstEval := false, lastTest := none,
            dwell := .noDwell, goto := none, effective := none }
    ∧ t.guard = { s.guard with causes := Causes.none, hostReq := false, changes := 0 }
    ∧ t.balance.table = s.balance.table
    ∧ t.balance.shuttle
        = { s.balance.shuttle with
            active := false, cooldown := none, permission := none, overrideMark := false
            endReason := if s.balance.shuttle.active then .aborted .reset else s.balance.shuttle.endReason
            lastTransferred :=
              if s.balance.shuttle.active then s.balance.shuttle.transferred else s.balance.shuttle.lastTransferred }
    ∧ (∀ c, (t.balance.bleeds.get c).on = false ∧ (t.balance.bleeds.get c).origin = .none
        ∧ (t.balance.bleeds.get c).disagreements = (s.balance.bleeds.get c).disagreements)
    ∧ t.hold.pendingHold = none
    ∧ (s.op ≠ .held → t.hold.record = s.hold.record)
    ∧ (s.op = .held → t.hold.record = s.hold.record.map fun h => { h with resolution := some .reset })

/-! ## Port D -/

/-- The consecutive-bad count of port D and its reports: a bad frame advances the count, which stops at 255, and the fourth
sets the link condition mark and, in RUN and HELD, LINK where it is absent, in RUN with an override evaluation over the last
round (R53, R80); a good frame sets the count to 0 and, ending a
run of four or more, clears the mark, and an unfit one does nothing else (R78, R172, R174). -/
def Obligations.BadAndGoodFrames : Prop :=
  ∀ s : State, s.quiet = true →
    (s.link.badCount ≠ 3 →
        exec .portDBadFrame s
          = .next (State.arbitrate { s with link.badCount := min 255 (s.link.badCount + 1) }))
      ∧ (s.link.badCount = 3 → (s.op = .config ∨ s.guard.causes.link = true) →
          exec .portDBadFrame s
            = .next (State.arbitrate { s with link.badCount := 4, guard.linkMark := true }))
      ∧ (s.link.badCount = 3 → s.op ≠ .config → s.guard.causes.link = false →
          ∃ t, exec .portDBadFrame s = .next t ∧ t.link.badCount = 4
            ∧ t.guard
                = { s.guard with linkMark := true, causes := { s.guard.causes with link := true },
                                 changes := (s.guard.changes + 1) % 256 }
            ∧ s.sameTables t ∧ (s.op = .held → t.op = .held ∧ t.seqr = s.seqr ∧ t.path = s.path ∧ t.balance = s.balance)
            ∧ (s.op = .run → s.profiled = true → s.overridden t))
      ∧ (s.link.badCount < 4 →
          exec .unfitFrame s = .next (State.arbitrate { s with link.badCount := 0 }))
      ∧ (s.link.badCount ≥ 4 →
          exec .unfitFrame s = .next (State.arbitrate { s with link.badCount := 0, guard.linkMark := false }))

/-- An accepted SAMPLE in CONFIG that completes no round: the record's fields, the charge counted, set from the OCV table or
corrected at rest, the breach mark and the contribution, with nothing else of the cells changed (R3 to R6, R8, R9, R11, R12,
R17, R18, R20); and what is forwarded of it: nothing, the frame as received, or, of a clean one, a copy with the SOC and the
scaled charge it left (R174, R176, R177). -/
def Obligations.SampleInConfig : Prop :=
  ∀ (s : State) (c : CellId) (f : SampleFrame) (fold : Bool), s.quiet = true → s.op = .config →
    s.balance.shuttle.active = false → s.routes[sampleRoute c].use = true → (s.cell c).lastSeq ≠ some f.seq →
    ((s.cell (otherCell c)).contribution = none ∨ sampleClean f = false) →
    let r := s.cell c
    let full := s.cells.capacity c * 36000000
    let i := f.current.toInt
    let n := min f.interval.toNat 10000
    let v := sampleMillivolts f
    let q := min (max 0 ((r.charge : Int) + i * n)).toNat full
    let disturbed : Prop := (i.natAbs : Int) > s.cells.restI
    let ready : Prop := s.cells.ocv.valid = true ∧ s.cells.capacity c ≠ 0
    let set (soc : Nat) := soc * full / 1000
    ∃ t, exec (.sample c f fold) s = .next t
      ∧ (t.cell c).lastSeq = some f.seq
      ∧ (t.cell c).voltage = (if f.status.getLsbD 1 ∨ f.voltage = 65535 then r.voltage else some f.voltage.toNat)
      ∧ (t.cell c).temperature
          = (if f.status.getLsbD 1 ∨ f.temperature.toInt = -32768 then r.temperature else some f.temperature.toInt)
      ∧ (t.cell c).current = i ∧ (t.cell c).balance = f.balance.toInt ∧ (t.cell c).interval = n
      ∧ (t.cell c).bleeding = f.status.getLsbD 0 ∧ (t.cell c).fault = f.status.getLsbD 1
      ∧ (sampleClean f = true → (t.cell c).monitor = .fresh ∧ (t.cell c).staleness = some s.guard.staleMs)
      ∧ (sampleClean f = false → (t.cell c).monitor = r.monitor ∧ (t.cell c).staleness = r.staleness)
      ∧ ((v = none ∨ ((r.known = true ∨ ¬ ready) ∧ (r.rested = false ∨ disturbed ∨ r.known = false ∨ ¬ ready))) →
          (t.cell c).charge = q ∧ (t.cell c).known = r.known
            ∧ (disturbed → (t.cell c).rest = some s.cells.restMs ∧ (t.cell c).rested = false)
            ∧ (¬ disturbed → (t.cell c).rest = r.rest ∧ (t.cell c).rested = r.rested))
      ∧ (∀ x, v = some x → r.known = false → ready →
          (t.cell c).charge = set (s.cells.socAt x) ∧ (t.cell c).known = true
            ∧ (t.cell c).rest = some s.cells.restMs ∧ (t.cell c).rested = false)
      ∧ (∀ x, v = some x → r.known = true → ready → r.rested = true → ¬ disturbed →
          (t.cell c).charge
              = (if ((s.cells.socAt x : Int) - socOf q full).natAbs ≥ s.cells.ocvCorr then set (s.cells.socAt x) else q)
            ∧ (t.cell c).known = true ∧ (t.cell c).rest = some s.cells.restMs ∧ (t.cell c).rested = false)
      ∧ (t.cell c).soc = (if full = 0 then 0 else (t.cell c).charge * 1000 / full)
      ∧ ((t.cell c).breach.ov = true ↔ r.breach.ov = true ∨ ∃ x, v = some x ∧ x ≥ s.guard.hardOv)
      ∧ ((t.cell c).breach.uv = true ↔
          r.breach.uv = true ∨ ∃ x, v = some x ∧ ¬ x ≥ s.guard.hardOv ∧ x < s.guard.hardUv)
      ∧ ((t.cell c).breach.ot = true ↔ r.breach.ot = true ∨ ∃ x, sampleTenths f = some x ∧ x ≥ s.guard.hardOt)
      ∧ (t.cell c).contribution
          = (if sampleClean f then some ⟨v.getD 0, (sampleTenths f).getD 0, i, f.balance.toInt⟩ else r.contribution)
      ∧ t.cell (otherCell c) = s.cell (otherCell c)
      ∧ t.cells.input = s.cells.input ∧ t.cells.table = s.cells.table ∧ t.cells.ocv = s.cells.ocv
      ∧ t.cells.lastRound = s.cells.lastRound
      ∧ t.fold = fold ∧ t.op = .config ∧ t.seqr = s.seqr ∧ t.path = s.path ∧ t.hold = s.hold ∧ t.gate = s.gate
      ∧ t.guard = { s.guard with linkMark := s.guard.linkMark && decide (s.link.badCount < 4) } ∧ t.link.badCount = 0
      ∧ (∀ j, j ≠ sampleRoute c → t.routes[j] = s.routes[j]) ∧ t.cmd.held = s.cmd.held ∧ t.cmd.nodes = s.cmd.nodes
      ∧ t.balance.shuttle = s.balance.shuttle ∧ t.balance.table = s.balance.table
      ∧ t.balance.bleeds.get (otherCell c) = s.balance.bleeds.get (otherCell c)
      ∧ (let b := s.balance.bleeds.get c
         t.balance.bleeds.get c
          = (if f.status.getLsbD 0 = b.on then b else { b with disagreements := min 255 (b.disagreements + 1) }))
      ∧ (let e := s.routes[sampleRoute c]
         let passed : Bool := decide (e.pass ≠ .off ∧ e.counter + 1 ≥ e.n)
         t.routes[sampleRoute c]
            = (if e.pass = .off then e else { e with counter := if e.counter + 1 ≥ e.n then 0 else e.counter + 1 })
          ∧ (s.link.sendingU.isSome → s.out.forward.length < 8 →
              (passed = false → t.out.forward = s.out.forward)
              ∧ (passed = true → (e.pass = .plain ∨ sampleClean f = false) →
                  t.out.forward = s.out.forward ++ [⟨sampleToFrame c f, none⟩])
              ∧ (passed = true → e.pass = .annotated → sampleClean f = true →
                  t.out.forward
                    = s.out.forward
                      ++ [⟨{ sampleToFrame c f with
                              payload :=
                                samplePayload f ++ wordBytes (BitVec.ofNat 16 (t.cell c).soc)
                                  ++ chargeBytes (t.cell c).charge }, none⟩])))

/-- A SAMPLE that is a duplicate, or whose entry's use is no, leaves the cells and every block but the links, the route
counters and the output queues as they are (R3, R174); where its entry passes it, it is forwarded as received (R176, R177). -/
def Obligations.SampleNotUsed : Prop :=
  ∀ (s : State) (c : CellId) (f : SampleFrame) (fold : Bool), s.quiet = true →
    (s.routes[sampleRoute c].use = false ∨ (s.cell c).lastSeq = some f.seq) →
    ∃ t, exec (.sample c f fold) s = .next t
      ∧ t.cells = s.cells ∧ t.fold = fold ∧ t.op = s.op ∧ t.seqr = s.seqr ∧ t.path = s.path ∧ t.balance = s.balance
      ∧ t.hold = s.hold ∧ t.gate = s.gate ∧ t.cmd.held = s.cmd.held ∧ t.cmd.nodes = s.cmd.nodes
      ∧ t.guard = { s.guard with linkMark := s.guard.linkMark && decide (s.link.badCount < 4) } ∧ t.link.badCount = 0
      ∧ (∀ j, j ≠ sampleRoute c → t.routes[j] = s.routes[j])
      ∧ (let e := s.routes[sampleRoute c]
         t.routes[sampleRoute c]
          = (if e.pass = .off then e
             else { e with counter := if e.counter + 1 ≥ e.n then 0 else e.counter + 1 })
          ∧ (s.link.sendingU.isSome → s.out.forward.length < 8 →
              t.out.forward
                = s.out.forward
                  ++ (if e.pass ≠ .off ∧ e.counter + 1 ≥ e.n then [⟨sampleToFrame c f, none⟩] else [])))

/-- The clean SAMPLE that finds the other cell's contribution completes the round in every operating state: the summary of both
cells is stored, both contributions are cleared, and in RUN the round is evaluated (R20, R21, R22, R46). An evaluation whose
stage 3 finds an empty target, or whose effective step is empty, hands EMPTY_STEP (R62); another settles the effective step,
hands it over with the summary to the path and balance units, sends their SETPOINT and announces an entered step (R50, R51,
R52, R81). Stages 1 to 3 have their own statements. -/
def Obligations.RoundCompletes : Prop :=
  (∀ (s : State) (c : CellId) (f : SampleFrame) (fold : Bool) (k : Contribution), s.quiet = true →
      (s.balance.shuttle.active = false ∨ s.balance.shuttle.source ≠ some c) →
      s.routes[sampleRoute c].use = true → (s.cell c).lastSeq ≠ some f.seq →
      (s.cell (otherCell c)).contribution = some k → sampleClean f = true →
      (s.op = .config ∨ ((f.voltage.toNat : Int) < s.guard.hardOv ∧ (f.voltage.toNat : Int) ≥ s.guard.hardUv
        ∧ f.temperature.toInt < s.guard.hardOt)) →
      ∃ t, exec (.sample c f fold) s = .next t ∧ ∃ (r : Summary) (u : State), u.cells.lastRound = some r
        ∧ r.voltage c = f.voltage.toNat ∧ r.voltage (otherCell c) = k.voltage
        ∧ r.hot = max f.temperature.toInt k.temperature ∧ r.cold = min f.temperature.toInt k.temperature
        ∧ r.pack = ((f.current.toInt - f.balance.toInt) + (k.current - k.balance)) / 2
        ∧ r.soc1 = (u.cell .one).soc ∧ r.soc2 = (u.cell .two).soc
        ∧ r.fold = fold ∧ r.present = s.path.present
        ∧ r.sysPower = s.cells.input.vsys * max s.cells.input.isys 0 / 1000
        ∧ u.cell c
            = { (s.cell c).takeSample s.cells c f s.guard.staleMs with
                breach := (u.cell c).breach, contribution := none }
        ∧ u.cell (otherCell c) = { s.cell (otherCell c) with contribution := none }
        ∧ u.cells.input = s.cells.input ∧ u.cells.table = s.cells.table ∧ u.cells.ocv = s.cells.ocv
        ∧ u.op = s.op ∧ u.seqr = s.seqr ∧ u.path = s.path ∧ u.hold = s.hold ∧ u.gate = s.gate ∧ u.fold = fold
        ∧ u.balance.shuttle = s.balance.shuttle ∧ u.balance.table = s.balance.table ∧ u.cmd.held = s.cmd.held
        ∧ u.guard = { s.guard with linkMark := s.guard.linkMark && decide (s.link.badCount < 4) }
        ∧ (s.op ≠ .run → t.op = s.op ∧ t.cells = u.cells ∧ t.seqr = s.seqr ∧ t.path = s.path ∧ t.hold = s.hold
            ∧ t.gate = s.gate ∧ t.guard = u.guard ∧ t.balance = u.balance ∧ t.cmd.nodes = s.cmd.nodes)
        ∧ (s.op = .run →
            let w := u.roundEvaluation r
            t.op = w.op ∧ t.cells = w.cells ∧ t.seqr = w.seqr ∧ t.path = w.path ∧ t.hold = w.hold ∧ t.gate = w.gate
              ∧ t.guard = w.guard ∧ t.balance = w.balance ∧ t.cmd.nodes = w.cmd.nodes ∧ t.cmd.held = w.cmd.held
              ∧ t.link.portD = w.link.portD))
    ∧ ∀ (s : State) (r : Summary),
        let evaluated := s.roundEvaluation r
        let emptyStep (a : StepAddr) : HoldCause := ⟨.emptyStep, .sequencer, .address a, none, false⟩
        let stage3 := (s.stageSwap.1.stageCauses r).stageStep r
        (∀ s3 a, stage3 = .blocked s3 a → evaluated = s3.handCause (emptyStep a))
          ∧ ∀ s3 entered, stage3 = .ok s3 entered → ∀ bank stored, s3.seqr.designation = some bank →
              s3.seqr.stored = some stored → ∀ a : StepAddr,
              ((s3.guard.causes = Causes.none ∧ a = stored)
                ∨ ∃ col : Fin 8, s3.guard.causes.has col = true ∧ (∀ j, j < col → s3.guard.causes.has j = false)
                    ∧ a = ⟨bank, 11, col⟩) →
              (s3.entryAt a = none → evaluated = s3.handCause (emptyStep a))
                ∧ ∀ e, s3.entryAt a = some e →
                  let h : HandOver :=
                    { summary := some r, addr := a, limit := e.limit, ceiling := e.ceiling, band := e.band, path := e.path
                      gate := e.gate, column := if a.row.val = 11 then some a.col else none, t := s3.seqr.t, d := s3.seqr.d }
                  let k := State.compute { s3 with path.handOver := some h }
                  evaluated.op = s3.op ∧ evaluated.guard = s3.guard ∧ evaluated.cells = s3.cells ∧ evaluated.hold = s3.hold
                    ∧ evaluated.seqr = { s3.seqr with effective := some a }
                    ∧ evaluated.path.handOver = some h ∧ evaluated.path.computation = some k
                    ∧ evaluated.balance = (s3.balanceDecision r e.permission (decide (a.row.val = 11)) k.mode).balance
                    ∧ (let p : Setpoint :=
                        { mode := k.mode, charge := k.iSet
                          dir :=
                            if evaluated.balance.shuttle.active then
                              (match evaluated.balance.shuttle.source with
                               | some .one => .oneToTwo | some .two => .twoToOne | none => .off)
                            else .off
                          current := if evaluated.balance.shuttle.active then s3.balance.shuttleCurrent else 0
                          composedIn := .run }
                       (s3.cmd.nodes.get .s4 = .empty →
                          ∃ q, evaluated.path.lastSetpoint = some ⟨p, q⟩
                            ∧ evaluated.cmd.nodes.get .s4 = .setpoint ⟨p, q⟩ 0)
                        ∧ (s3.cmd.nodes.get .s4 ≠ .empty →
                            evaluated.path.slot = some p ∧ evaluated.path.lastSetpoint = s3.path.lastSetpoint))
                    ∧ (∀ x e', entered.or s.stageSwap.2 = some x → s3.storedEntry = some e' → e'.announce = true →
                        ⟨.step,
                          [.step s3.seqr.stored, .step x.replaced, .byte x.how,
                           .byte (match x.lastTest with | some true => 1 | some false => 0 | none => 255),
                           .step (some a), .word (max r.v1 r.v2), .word r.pack, .word (min r.soc1 r.soc2 : Nat)]⟩
                          ∈ evaluated.out.alerts)
                    ∧ ((entered.or s.stageSwap.2 = none ∨ ∀ e', s3.storedEntry = some e' → e'.announce = false) →
                        ∀ x ∈ evaluated.out.alerts, x.kind = .step → x ∈ s3.out.alerts)

/-- A SAMPLE over HARD_OV, below HARD_UV or over HARD_OT, the voltage's cause first where it breaches both, and a STAGE report
with a fault code. In RUN the first cause enters HELD: the record is the snapshot it found, GATE falls, a pending swap and goto
go, the shuttle ends and the bleeds go off, the hand-over record is emptied, and HELD's zero setpoint is called for, behind what
the report itself released (R113, R115); a second cause becomes the pending hold. In HELD a
cause becomes the pending hold or, with one pending, sets the repeat mark, and leaves the record's snapshot, the sequencer and
the causes (R17, R118, R141, R143, R144, R148). Which report answers after a timeout is free (log 29), NODE4's release goes
before the hold (log 30), and a shuttle's end calls for no setpoint beside the zero one (log 44). -/
def Obligations.FaultsHold : Prop :=
  ∀ s : State, s.quiet = true →
    let entered (t : State) (cause : HoldCause) : Prop :=
      t.op = .held ∧ t.gate = false
        ∧ t.hold.record
            = some
                { cause := cause, stored := s.seqr.stored, t := s.seqr.t, d := s.seqr.d, dwellLeft := s.seqr.dwell.left
                  causes := s.guard.causes, shuttle := s.balance.shuttle.snapshot
                  swapCancelled := s.seqr.swap.isSome, reentry := false, repeated := false, resolution := none }
        ∧ t.seqr.swap = none ∧ t.seqr.goto = none ∧ t.seqr.stored = s.seqr.stored
        ∧ t.balance.shuttle.active = false ∧ t.anyBleed = false ∧ t.path.handOver = none
    let repeated : Option HoldRecord := s.hold.record.map fun h => { h with repeated := true }
    let zero : Setpoint := zeroSetpoint .held s.path.ship s.path.present
    (∀ (c : CellId) (f : SampleFrame) (fold : Bool), s.routes[sampleRoute c].use = true →
        (s.cell c).lastSeq ≠ some f.seq →
        let passed : Bool := decide (s.routes[sampleRoute c].decide.1 ≠ .off)
        let cause (kind : HoldKind) (x : Int) : HoldCause := ⟨kind, .cell c, .measured x, some f.seq, passed⟩
        let ofVoltage : Option HoldCause :=
          (sampleMillivolts f).bind fun x =>
            if x ≥ s.guard.hardOv then some (cause .hardOv x)
            else if x < s.guard.hardUv then some (cause .hardUv x) else none
        let ofTemperature : Option HoldCause :=
          (sampleTenths f).bind fun y => if y ≥ s.guard.hardOt then some (cause .hardOt y) else none
        ∀ first second,
          ((ofVoltage = some first ∧ second = ofTemperature)
            ∨ (ofVoltage = none ∧ ofTemperature = some first ∧ second = none)) →
          (s.op = .run → s.hold.pendingHold = none →
            ∃ t, exec (.sample c f fold) s = .next t ∧ entered t first ∧ t.hold.pendingHold = second
              ∧ s.calledFor t zero)
          ∧ (s.op = .held →
            ∃ t, exec (.sample c f fold) s = .next t ∧ t.op = .held ∧ t.seqr = s.seqr ∧ t.guard.causes = s.guard.causes
              ∧ t.path.handOver = s.path.handOver ∧ t.gate = s.gate
              ∧ (s.hold.pendingHold = none →
                  t.hold = ⟨if second.isSome then repeated else s.hold.record, some first⟩)
              ∧ (s.hold.pendingHold.isSome → t.hold = ⟨repeated, s.hold.pendingHold⟩)))
      ∧ (∀ f : StageFrame, s.routes[stageRoute].use = true → f.fault ≠ 0 →
        let cause : HoldCause :=
          ⟨.stageFault, .stage, .number f.fault, some f.seq, decide (s.routes[stageRoute].decide.1 ≠ .off)⟩
        (s.op = .run →
          ∃ t, exec (.stage f) s = .next t ∧ entered t cause ∧ t.hold.pendingHold = s.hold.pendingHold
            ∧ (let answered : Prop :=
                (s.path.slot = none → State.calledFor { s with cmd.nodes := s.cmd.nodes.set .s4 .empty } t zero)
                  ∧ ∀ x, s.path.slot = some x →
                    t.path.slot = some zero ∧ t.path.lastSetpoint = some ⟨x, s.link.seqD⟩
                      ∧ t.cmd.nodes.get .s4 = .setpoint ⟨x, s.link.seqD⟩ 0 ∧ setpointFrame x s.link.seqD ∈ t.link.portD
               (∀ p ms, s.cmd.nodes.get .s4 = .setpoint p ms → s.path.overdue = false → answered)
                ∧ (∀ p ms, s.cmd.nodes.get .s4 = .setpoint p ms → s.path.overdue = true → answered ∨ s.calledFor t zero)
                ∧ ((∀ p ms, s.cmd.nodes.get .s4 ≠ .setpoint p ms) → s.calledFor t zero)))
        ∧ (s.op = .held →
          ∃ t, exec (.stage f) s = .next t ∧ t.op = .held ∧ t.seqr = s.seqr ∧ t.guard.causes = s.guard.causes
            ∧ t.path.handOver = s.path.handOver
            ∧ (s.hold.pendingHold = none → t.hold = ⟨s.hold.record, some cause⟩)
            ∧ (s.hold.pendingHold.isSome → t.hold = ⟨repeated, s.hold.pendingHold⟩))
        ∧ (s.op = .config → ∃ t, exec (.stage f) s = .next t ∧ t.op = .config ∧ t.hold = s.hold ∧ t.seqr = s.seqr))

/-- An accepted INPUT writes the input record and is judged for presence; a loss clears the offers, a return ends ship mode,
and either calls for a setpoint, computed in RUN and of charge 0 elsewhere (R2, R4, R7, R105 to R107, R113); where its entry passes it, it is forwarded as received (R174, R176). -/
def Obligations.InputTaken : Prop :=
  ∀ (s : State) (f : InputFrame), s.quiet = true → s.routes[inputRoute].use = true →
    s.cells.input.lastSeq ≠ some f.seq →
    let present : Bool := decide ((f.adapter.toNat : Int) ≥ s.guard.vinMin)
    ∃ t, exec (.input f) s = .next t
      ∧ t.cells
          = { s.cells with
              input := ⟨.fresh, some s.guard.staleMs, some f.seq, f.adapter.toNat, f.current.toInt, f.vsys.toNat,
                f.isys.toInt, min f.interval.toNat 10000⟩ }
      ∧ t.path.present = present
      ∧ (present = s.path.present →
          t.path = s.path ∧ t.gate = s.gate ∧ t.cmd.nodes = s.cmd.nodes ∧ t.link.portD = s.link.portD)
      ∧ (s.path.present = true → present = false → t.path.pendingOffer = none ∧ t.path.acceptedOffer = none
          ∧ t.path.ship = s.path.ship)
      ∧ (s.path.present = false → present = true → t.path.ship = false ∧ t.path.pendingOffer = s.path.pendingOffer
          ∧ t.path.acceptedOffer = s.path.acceptedOffer)
      ∧ (present ≠ s.path.present →
          let u : State :=
            { s with
              cells := t.cells
              path :=
                { s.path with
                  present := present, pendingOffer := t.path.pendingOffer, acceptedOffer := t.path.acceptedOffer } }
          t.path.handOver = s.path.handOver ∧ (s.op = .run → s.computedFor t u.compute)
            ∧ (s.op ≠ .run →
                t.path.computation = s.path.computation ∧ s.calledFor t (zeroSetpoint s.op t.path.ship present)))
      ∧ t.op = s.op ∧ t.seqr = s.seqr ∧ t.balance = s.balance ∧ t.hold = s.hold ∧ t.fold = s.fold
      ∧ t.cmd.held = s.cmd.held ∧ t.path.derate = s.path.derate
      ∧ (let e := s.routes[inputRoute]
         s.link.sendingU.isSome → s.out.forward.length < 8 →
          t.out.forward
            = s.out.forward
              ++ (if e.pass ≠ .off ∧ e.counter + 1 ≥ e.n then [⟨inputToFrame f, none⟩] else []))

/-- A STAGE report without a fault: the answer of the outstanding setpoint, which frees NODE4 and sends the slot's setpoint,
or an unsolicited report that releases nothing (R115, R116); where its entry passes it, it is forwarded as received (R174,
R176). Of a report that follows an answer timeout while a later setpoint is outstanding, R116 and R120 together leave open
which of the two it is: the model leaves it free and marks the state an answer is overdue in (log 29). The applied current is read without a sign (log 39). -/
def Obligations.StageReported : Prop :=
  ∀ (s : State) (f : StageFrame), s.quiet = true → s.routes[stageRoute].use = true → f.fault = 0 →
    let report (answered : Bool) : StageRecord := ⟨f.applied.toNat, f.mode, f.shuttle, 0, f.seq, answered⟩
    let unsolicited (t : State) : Prop :=
      t.cmd.nodes = s.cmd.nodes ∧ t.link.portD = s.link.portD ∧ t.link.seqD = s.link.seqD ∧ t.gate = s.gate
        ∧ t.path = { s.path with stage := some (report false), silent := 0, overdue := false }
    let answer (t : State) : Prop :=
      (s.path.slot = none →
          t.cmd.nodes = s.cmd.nodes.set .s4 .empty ∧ t.link.portD = s.link.portD ∧ t.link.seqD = s.link.seqD
            ∧ t.gate = s.gate ∧ t.path = { s.path with stage := some (report true), silent := 0, overdue := false })
        ∧ ∀ q, s.path.slot = some q →
          t.cmd.nodes = s.cmd.nodes.set .s4 (.setpoint ⟨q, s.link.seqD⟩ 0)
            ∧ t.link.portD = s.link.portD ++ [setpointFrame q s.link.seqD] ∧ t.link.seqD = s.link.seqD + 1
            ∧ t.gate = (decide (s.op = .run) && decide (q.mode = .charge) && decide (q.charge > 0))
            ∧ t.path
                = { s.path with stage := some (report true), silent := 0, overdue := false, slot := none,
                                lastSetpoint := some ⟨q, s.link.seqD⟩ }
    ∃ t, exec (.stage f) s = .next t
      ∧ t.op = s.op ∧ t.cells = s.cells ∧ t.seqr = s.seqr ∧ t.balance = s.balance ∧ t.hold = s.hold ∧ t.fold = s.fold
      ∧ t.cmd.held = s.cmd.held
      ∧ (∀ p ms, s.cmd.nodes.get .s4 = .setpoint p ms → s.path.overdue = false → answer t)
      ∧ (∀ p ms, s.cmd.nodes.get .s4 = .setpoint p ms → s.path.overdue = true → answer t ∨ unsolicited t)
      ∧ ((∀ p ms, s.cmd.nodes.get .s4 ≠ .setpoint p ms) → unsolicited t)
      ∧ (let e := s.routes[stageRoute]
         s.link.sendingU.isSome → s.out.forward.length < 8 →
          t.out.forward
            = s.out.forward
              ++ (if e.pass ≠ .off ∧ e.counter + 1 ≥ e.n then [⟨stageToFrame f, none⟩] else []))

/-- A node's REPLY answers the command its entry holds, whatever its contents: the entry is emptied, the REPLY goes to the
forward queue unaltered and the command is REPLIED; the entry of node 4 goes to the setpoint in the slot, where one waits, and
it is sent (R108, R119). With no command in the entry the REPLY is dropped and counted (R164). -/
def Obligations.NodeReplyTaken : Prop :=
  ∀ (s : State) (n : NodeId) (dest : Address) (seq : Byte) (payload : List Byte), s.quiet = true →
    (∀ place q ms, s.cmd.nodes.get n = .command place q ms → (n = .s4 → s.path.slot = none) →
        ∃ t, exec (.nodeReply n dest seq payload) s = .next t
          ∧ t.cmd.nodes = s.cmd.nodes.set n .empty
          ∧ t.cmd.held
              = s.cmd.held.map (fun c => if c.place = place then { c with state := .replied, wait := none } else c)
          ∧ (s.link.sendingU.isSome → s.out.forward.length < 8 →
              t.out.forward = s.out.forward ++ [⟨⟨dest, nodeAddress n, 7, seq, payload⟩, some place⟩])
          ∧ (s.link.sendingU = none → s.out = ⟨[], [], []⟩ →
              t.link.sendingU = some ⟨⟨dest, nodeAddress n, 7, seq, payload⟩, some place⟩ ∧ t.out = s.out)
          ∧ t.cmd.late = s.cmd.late ∧ t.op = s.op ∧ t.cells = s.cells ∧ t.seqr = s.seqr ∧ t.path = s.path
          ∧ t.balance = s.balance ∧ t.hold = s.hold ∧ t.gate = s.gate ∧ t.link.portD = s.link.portD)
      ∧ (∀ place q ms p, n = .s4 → s.cmd.nodes.get n = .command place q ms → s.path.slot = some p →
        ∃ t, exec (.nodeReply n dest seq payload) s = .next t
          ∧ t.cmd.nodes = s.cmd.nodes.set .s4 (.setpoint ⟨p, s.link.seqD⟩ 0)
          ∧ t.link.portD = s.link.portD ++ [setpointFrame p s.link.seqD] ∧ t.link.seqD = s.link.seqD + 1
          ∧ t.path = { s.path with slot := none, lastSetpoint := some ⟨p, s.link.seqD⟩ }
          ∧ t.gate = (decide (s.op = .run) && decide (p.mode = .charge) && decide (p.charge > 0))
          ∧ t.cmd.held
              = s.cmd.held.map (fun c => if c.place = place then { c with state := .replied, wait := none } else c)
          ∧ (s.link.sendingU.isSome → s.out.forward.length < 8 →
              t.out.forward = s.out.forward ++ [⟨⟨dest, nodeAddress n, 7, seq, payload⟩, some place⟩])
          ∧ (s.link.sendingU = none → s.out = ⟨[], [], []⟩ →
              t.link.sendingU = some ⟨⟨dest, nodeAddress n, 7, seq, payload⟩, some place⟩ ∧ t.out = s.out)
          ∧ t.guard = { s.guard with linkMark := s.guard.linkMark && decide (s.link.badCount < 4) }
          ∧ t.cmd.late = s.cmd.late ∧ s.sameTables t ∧ t.op = s.op ∧ t.seqr = s.seqr ∧ t.balance = s.balance
          ∧ t.hold = s.hold)
      ∧ ((∀ place q ms, s.cmd.nodes.get n ≠ .command place q ms) →
        ∃ t, exec (.nodeReply n dest seq payload) s = .next t
          ∧ t.cmd.late = s.cmd.late.set n (min 255 (s.cmd.late.get n + 1)) ∧ t.cmd.nodes = s.cmd.nodes
          ∧ t.cmd.held = s.cmd.held ∧ t.op = s.op ∧ t.cells = s.cells ∧ t.seqr = s.seqr ∧ t.path = s.path
          ∧ t.balance = s.balance ∧ t.hold = s.hold ∧ t.gate = s.gate
          ∧ (s.link.sendingU.isSome → t.out.forward = s.out.forward))

/-! ## Step banks -/

/-- LOAD_STEP and CLEAR_STEP, with no swap pending: a bad address, the active bank and a bad entry are refused; otherwise the
entry is stored with each number brought into its range and each operand its next rule does not read at 0, or emptied, and the
reply tells whether a number was altered and carries what LOAD_STEP stored (R25 to R27, R31, R34). The number 0 of a bad
address and field 7 of UNTIL_D without a dwell follow R182 and the model's choice (log 14). -/
def Obligations.StepWrites : Prop :=
  ∀ (s : State) (seq bank row col : Byte) (e : StepBytes), s.ready = true → s.seqr.swap = none →
    let readsA : Prop := e.kind = 2 ∨ e.kind = 3 ∨ e.kind = 4 ∨ e.kind = 8
    let readsQ : Prop := e.kind = 4 ∨ e.kind = 5 ∨ e.kind = 8
    let badNext : Prop :=
      e.kind.toNat > 8 ∨ (readsA ∧ e.a.toNat > 7) ∨ (e.kind = 3 ∧ e.b.toNat > 7) ∨ (readsQ ∧ e.q.toNat > 10)
        ∨ (e.kind = 6 ∧ e.a.toNat > 4)
    let bad : Option Nat :=
      if e.path.toNat > 1 then some 4
      else if e.gate.toNat > 3 then some 5
      else if e.permission.toNat > 3 then some 6
      else if e.gate = 3 ∧ e.dwell = 0 then some 7
      else if e.selector.toNat > 12 then some 8
      else if e.flagRule.toNat > 3 then some 10
      else if badNext then some 11
      else if e.announce.toNat > 1 then some 12
      else none
    let range : Option (Int × Int) :=
      if e.selector = 1 ∨ e.selector = 2 ∨ e.selector = 3 then some (2000, 4800)
      else if e.selector = 4 then some (-16000, 16000)
      else if e.selector = 5 ∨ e.selector = 6 then some (-400, 1000)
      else if e.selector = 7 ∨ e.selector = 8 then some (0, 1000)
      else none
    (addressOf bank row col = none →
        exec (.loadStep seq bank row col e) s
            = .next (s.replied seq (.loadStep bank row col e) .badEntry [.byte 0])
          ∧ exec (.clearStepEntry seq bank row col) s
            = .next (s.replied seq (.clearEntry bank row col) .badEntry [.byte 0]))
      ∧ (∀ a, addressOf bank row col = some a → s.op ≠ .config → s.seqr.designation = some a.bank →
          exec (.loadStep seq bank row col e) s
              = .next (s.replied seq (.loadStep bank row col e) .activeBank [])
            ∧ exec (.clearStepEntry seq bank row col) s
              = .next (s.replied seq (.clearEntry bank row col) .activeBank []))
      ∧ (∀ a, addressOf bank row col = some a → (s.op = .config ∨ s.seqr.designation ≠ some a.bank) →
          exec (.clearStepEntry seq bank row col) s
              = .next ((s.setEntry a none).replied seq (.clearEntry bank row col) .ok [])
            ∧ (∀ field, bad = some field →
                exec (.loadStep seq bank row col e) s
                  = .next (s.replied seq (.loadStep bank row col e) .badEntry [.byte field]))
            ∧ (bad = none →
                ∃ n : StepEntry,
                  n.limit = min 8000 e.limit.toNat / 25 * 25 ∧ n.ceiling = max 3000 (min 4600 e.ceiling.toNat)
                  ∧ n.band = max 10 (min 500 e.band.toNat) ∧ n.path.code = e.path.toNat ∧ n.gate.code = e.gate.toNat
                  ∧ n.permission.code = e.permission.toNat ∧ n.dwell = (if e.dwell = 0 then none else some e.dwell.toNat)
                  ∧ n.selector.code = e.selector.toNat
                  ∧ n.threshold
                      = (match range with | some (lo, hi) => max lo (min hi e.threshold.toInt) | none => 0)
                  ∧ n.flagRule.code = e.flagRule.toNat ∧ n.next.code = e.kind.toNat
                  ∧ n.next.operands
                      = (if readsQ then e.q.toNat else 0, if readsA ∨ e.kind = 6 then e.a.toNat else 0,
                          if e.kind = 3 then e.b.toNat else 0)
                  ∧ n.announce = decide (e.announce = 1)
                  ∧ (let altered : Prop :=
                      n.limit ≠ e.limit.toNat ∨ n.ceiling ≠ e.ceiling.toNat ∨ n.band ≠ e.band.toNat
                        ∨ (range.isSome ∧ n.threshold ≠ e.threshold.toInt)
                     exec (.loadStep seq bank row col e) s
                      = .next ((s.setEntry a (some n)).replied seq (.loadStep bank row col e)
                          (if altered then .clamped else .ok) [.entry (some n)]))))
      ∧ (bankOf bank = none →
          exec (.clearStepBank seq bank) s = .next (s.replied seq (.clearBank bank) .badEntry [.byte 0]))
      ∧ (∀ id, bankOf bank = some id → s.op ≠ .config → s.seqr.designation = some id →
          exec (.clearStepBank seq bank) s = .next (s.replied seq (.clearBank bank) .activeBank []))
      ∧ (∀ id, bankOf bank = some id → (s.op = .config ∨ s.seqr.designation ≠ some id) →
          exec (.clearStepBank seq bank) s
              = .next (State.replied { s with seqr := s.seqr.setBank id emptyBank } seq (.clearBank bank) .ok [])
            ∧ ∀ row col, bankEntry emptyBank row col = none)

/-- READ_STEP returns the entry, the designation and whether that bank is active, and changes no block; a bad address is
refused with the number 0 of R182 (R35, R183; log 14). -/
def Obligations.ReadStepReturns : Prop :=
  ∀ (s : State) (seq bank row col : Byte), s.ready = true →
    (addressOf bank row col = none →
        exec (.readStep seq bank row col) s = .next (s.replied seq (.readStep bank row col) .badEntry [.byte 0]))
      ∧ (∀ a, addressOf bank row col = some a →
          let filled : Bool := (s.entryAt a).isSome
          let active : Bool := decide (s.op ≠ .config) && s.seqr.designation.isSome
          exec (.readStep seq bank row col) s
            = .next (s.replied seq (.readStep bank row col) .ok
                [.raw [BitVec.ofNat 8 (filled.toNat + 2 * active.toNat)], .bank s.seqr.designation,
                 .entry (s.entryAt a)]))

/-- SWAP, with none pending: refused outside RUN, on a bad bank or step and on the active bank; otherwise recorded with no
reply, the command ISSUED (R36, R42). Stage 1 of the next evaluation ends it: dropped with BAD_TABLE where the target bank's
override row has an empty entry, the lowest named, or the target step is empty; else applied, the target entered fresh and a
pending GOTO discarded (R38, R39, R42, R46). What the two failures look like in the reply is the model's (log 26). -/
def Obligations.SwapTaken : Prop :=
  (∀ (s : State) (w : PendingSwap) (stored : StepAddr), s.seqr.swap = some w → s.seqr.stored = some stored →
      let target : StepAddr :=
        match w.target with
        | some (q, c) => ⟨w.bank, profileRow q, c⟩
        | none => ⟨w.bank, stored.row, stored.col⟩
      let dropped (failure : List Field) : State :=
        State.answerAt { s with seqr.swap := none } w.place w.seq .badTable
          ([.bank s.seqr.designation, .step (some stored)] ++ failure)
      let override (k : Fin 8) : Option StepEntry := bankEntry (s.seqr.bank w.bank) 11 k
      (∀ k, override k = none → (∀ j, j < k → (override j).isSome) →
          s.stageSwap = (dropped [.byte k.val, .step none], none))
        ∧ ((∀ k, (override k).isSome) →
            (s.entryAt target = none → s.stageSwap = (dropped [.byte 255, .step (some target)], none))
            ∧ ((s.entryAt target).isSome →
                let entered := State.enterFresh
                  { s with seqr.designation := some w.bank, seqr.swap := none, seqr.goto := none } target
                s.stageSwap
                  = (entered.answerAt w.place w.seq .ok
                      [.bank (some w.bank), .step (some target), .step (some target), .mark s.seqr.goto.isSome],
                     some ⟨some stored, 9, none⟩))))
  ∧ (∀ s : State, s.seqr.swap = none → s.stageSwap = (s, none))
  ∧ ∀ (s : State) (seq bank : Byte) (target : Option (Byte × Byte)), s.ready = true → s.seqr.swap = none →
    let results : List Field := [.bank s.seqr.designation, .step s.seqr.stored]
    (s.op ≠ .run → exec (.swap seq bank target) s = .next (s.replied seq (.swap bank target) .state results))
      ∧ (s.op = .run → (bankOf bank = none ∨ ∃ p ∈ target, positionOf p.1 p.2 = none) →
          exec (.swap seq bank target) s = .next (s.replied seq (.swap bank target) .badEntry results))
      ∧ (∀ id, s.op = .run → bankOf bank = some id → (∀ p ∈ target, (positionOf p.1 p.2).isSome) →
          s.seqr.designation = some id →
          exec (.swap seq bank target) s = .next (s.replied seq (.swap bank target) .activeBank results))
      ∧ (∀ id, s.op = .run → bankOf bank = some id → (∀ p ∈ target, (positionOf p.1 p.2).isSome) →
          s.seqr.designation ≠ some id →
          exec (.swap seq bank target) s
            = .next
                { s.arbitrate with
                  seqr.swap := some ⟨id, target.bind fun p => positionOf p.1 p.2, s.freePlace, seq⟩
                  cmd.held := s.cmd.held ++ [s.heldAs seq (.swap bank target) .issued] })

/-- GOTO, with no swap pending: refused outside RUN, beyond row 10 or column 7, and on an empty target of the active bank;
otherwise the target becomes the pending goto (R63). That the refusals carry no number is the model's choice (log 14). Stage 3
of the next evaluation applies it whatever the cause set: the target entered fresh, or found empty (R49, R62, R64). -/
def Obligations.GotoTaken : Prop :=
  (∀ (s : State) (r : Summary) (q : Fin 11) (k : Fin 8) (id : BankId), s.seqr.goto = some (q, k) →
      s.seqr.designation = some id →
      let target : StepAddr := ⟨id, profileRow q, k⟩
      (s.entryAt target = none → s.stageStep r = .blocked { s with seqr.goto := none } target)
        ∧ ((s.entryAt target).isSome →
            s.stageStep r
              = .ok (State.enterFresh { s with seqr.goto := none } target) (some ⟨s.seqr.stored, 10, none⟩)))
  ∧ ∀ (s : State) (seq row col : Byte), s.ready = true → s.seqr.swap = none →
    (s.op ≠ .run → exec (.goto seq row col) s = .next (s.replied seq (.goto row col) .state []))
      ∧ (s.op = .run → positionOf row col = none →
          exec (.goto seq row col) s = .next (s.replied seq (.goto row col) .badEntry []))
      ∧ (∀ q k id, s.op = .run → positionOf row col = some (q, k) → s.seqr.designation = some id →
          s.entryAt ⟨id, profileRow q, k⟩ = none →
          exec (.goto seq row col) s = .next (s.replied seq (.goto row col) .badEntry []))
      ∧ (∀ q k id, s.op = .run → positionOf row col = some (q, k) → s.seqr.designation = some id →
          (s.entryAt ⟨id, profileRow q, k⟩).isSome →
          exec (.goto seq row col) s
            = .next
                (State.replied { s with seqr.goto := some (q, k) } seq (.goto row col) .ok
                  [.step s.seqr.stored, .step s.seqr.effective, .step (some ⟨id, profileRow q, k⟩),
                   .mark s.seqr.goto.isSome]))

/-! ## Tables -/

/-- LOAD_TABLE to the cell table: taken in CONFIG alone, clamped, a capacity 0 or 500..8000; a capacity that changes sets the
cell's Q and SOC to 0 and clears its charge-known mark (R15). That the index is checked before the state is the model's choice
(log 12). -/
def Obligations.CellTableWritten : Prop :=
  ∀ (s : State) (seq index : Byte) (value : Word), s.ready = true →
    (index.toNat ≥ 5 →
        exec (.loadTableCell seq index value) s = .next (s.replied seq (.loadCell index value) .badEntry []))
      ∧ (index.toNat < 5 → s.op ≠ .config →
        exec (.loadTableCell seq index value) s = .next (s.replied seq (.loadCell index value) .state []))
      ∧ (∀ k : Fin 5, index.toNat = k.val → s.op = .config →
        let range : Vector (Int × Int) 5 := #v[(500, 8000), (500, 8000), (0, 500), (60, 7200), (1, 1000)]
        let x : Int := if k.val ≤ 1 ∧ value = 0 then 0 else max range[k].1 (min range[k].2 value.toNat)
        let forget (r : CellRecord) : CellRecord := { r with charge := 0, soc := 0, known := false }
        let changed : Bool := decide (x ≠ s.cells.table[k])
        let cells : CellUnit :=
          { s.cells with
            table := s.cells.table.set k x
            records :=
              ⟨if k.val = 0 ∧ changed then forget s.cells.records.one else s.cells.records.one,
               if k.val = 1 ∧ changed then forget s.cells.records.two else s.cells.records.two⟩ }
        exec (.loadTableCell seq index value) s
          = .next (State.replied { s with cells := cells } seq (.loadCell index value)
              (if x = value.toNat then .ok else .clamped) []))

/-- LOAD_TABLE to the OCV and derate tables: taken in CONFIG alone, each figure clamped, every reply with the valid mark; the
OCV table is valid when v rises strictly and s never falls, the derate table when T rises strictly (R16, R90). The order of
the OCV checks is the model's choice (log 12). -/
def Obligations.PointTablesWritten : Prop :=
  (∀ v : Vector Point 16,
      (ocvMarked v).valid = true ↔ ∀ (i : Nat) (h : i + 1 < 16), v[i].x < v[i + 1].x ∧ v[i].y ≤ v[i + 1].y)
    ∧ (∀ v : Vector Point 8, (derateMarked v).valid = true ↔ ∀ (i : Nat) (h : i + 1 < 8), v[i].x < v[i + 1].x)
    ∧ ∀ (s : State) (seq index : Byte) (x y : Word), s.ready = true →
      (index.toNat ≥ 16 →
          exec (.loadTableOcv seq index x y) s
            = .next (s.replied seq (.loadOcv index x y) .badEntry [.mark s.cells.ocv.valid]))
        ∧ (index.toNat < 16 → s.op ≠ .config →
          exec (.loadTableOcv seq index x y) s
            = .next (s.replied seq (.loadOcv index x y) .state [.mark s.cells.ocv.valid]))
        ∧ (∀ k : Fin 16, index.toNat = k.val → s.op = .config →
          let p : Point := ⟨max 2000 (min 4800 x.toNat), max 0 (min 1000 y.toNat)⟩
          let table := ocvMarked (s.cells.ocv.points.set k p)
          exec (.loadTableOcv seq index x y) s
            = .next (State.replied { s with cells.ocv := table } seq (.loadOcv index x y)
                (if p.x = x.toNat ∧ p.y = y.toNat then .ok else .clamped) [.mark table.valid]))
        ∧ (index.toNat ≥ 8 →
          exec (.loadTableDerate seq index x y) s
            = .next (s.replied seq (.loadDerate index x y) .badEntry [.mark s.path.derate.valid]))
        ∧ (index.toNat < 8 → s.op ≠ .config →
          exec (.loadTableDerate seq index x y) s
            = .next (s.replied seq (.loadDerate index x y) .state [.mark s.path.derate.valid]))
        ∧ (∀ k : Fin 8, index.toNat = k.val → s.op = .config →
          let p : Point := ⟨max (-400) (min 1000 x.toInt), max 0 (min 100 y.toNat)⟩
          let table := derateMarked (s.path.derate.points.set k p)
          exec (.loadTableDerate seq index x y) s
            = .next (State.replied { s with path.derate := table } seq (.loadDerate index x y)
                (if p.x = x.toInt ∧ p.y = y.toNat then .ok else .clamped) [.mark table.valid]))

/-- LOAD_TABLE to the guard table and to the balance table: taken in CONFIG alone and clamped to the entry's range, the reply
with the entry and the relations that fail (R68, R69, R122, R123). The results of a guard-table refusal and
the marks of the relations are the model's choice (log 12, log 33). -/
def Obligations.GuardAndBalanceTablesWritten : Prop :=
  ∀ (s : State) (seq index : Byte) (value : Word), s.ready = true →
    (index.toNat ≥ 8 →
        exec (.loadTableGuard seq index value) s = .next (s.replied seq (.loadGuard index value) .badEntry []))
      ∧ (index.toNat < 8 → s.op ≠ .config →
        exec (.loadTableGuard seq index value) s = .next (s.replied seq (.loadGuard index value) .state []))
      ∧ (∀ k : Fin 8, index.toNat = k.val → s.op = .config →
        let lo : Vector Int 8 := #v[3000, 2000, -200, -400, 40, 3000, 25, 70]
        let hi : Vector Int 8 := #v[4800, 4000, 800, 600, 1000, 20000, 8000, 98]
        let given : Int := if k.val = 2 ∨ k.val = 3 then value.toInt else value.toNat
        let x := max lo[k] (min hi[k] given)
        let g : GuardUnit := { s.guard with table := s.guard.table.set k x }
        exec (.loadTableGuard seq index value) s
          = .next (State.replied { s with guard := g } seq (.loadGuard index value)
              (if x = given then .ok else .clamped)
              [.word x, .mark (!decide (g.softOv < g.hardOv)), .mark (!decide (g.softUv > g.hardUv)),
               .mark (!decide (g.chgTmax < g.hardOt))]))
      ∧ (index.toNat ≥ 7 →
        exec (.loadTableBalance seq index value) s
          = .next (s.replied seq (.loadBalance index value) .badEntry
              [.mark (decide (s.balance.shuttleStop < s.balance.shuttleStart))]))
      ∧ (∀ k : Fin 7, index.toNat = k.val → s.op ≠ .config →
        exec (.loadTableBalance seq index value) s
          = .next (s.replied seq (.loadBalance index value) .state
              [.word s.balance.table[k], .mark (decide (s.balance.shuttleStop < s.balance.shuttleStart))]))
      ∧ (∀ k : Fin 7, index.toNat = k.val → s.op = .config →
        let lo : Vector Int 7 := #v[5, 0, 1, 3000, 100, 10, 0]
        let hi : Vector Int 7 := #v[200, 199, 200, 4600, 2000, 3600, 3600]
        let x := max lo[k] (min hi[k] value.toNat)
        let b : BalanceUnit := { s.balance with table := s.balance.table.set k x }
        exec (.loadTableBalance seq index value) s
          = .next (State.replied { s with balance := b } seq (.loadBalance index value)
              (if x = value.toNat then .ok else .clamped)
              [.word x, .mark (decide (b.shuttleStop < b.shuttleStart))]))

/-- LOAD_TABLE to the limit table: refused in RUN with STATE and in CONFIG under the lock with LOCKED, stored clamped in
CONFIG with the lock clear and in HELD; every reply with the lock and the relations that fail (R70, R71), as marks of the
model's choice (log 33). -/
def Obligations.LimitTableWritten : Prop :=
  ∀ (s : State) (seq index : Byte) (value : Word), s.ready = true →
    let marks (g : GuardUnit) : List Field :=
      [.mark g.lock, .mark (!decide (g.softOv < g.hardOv)), .mark (!decide (g.softUv > g.hardUv)),
       .mark (!decide (g.chgTmax < g.hardOt))]
    (index.toNat ≥ 6 →
        exec (.loadTableLimit seq index value) s
          = .next (s.replied seq (.loadLimit index value) .badEntry (marks s.guard)))
      ∧ (index.toNat < 6 → s.op = .run →
        exec (.loadTableLimit seq index value) s
          = .next (s.replied seq (.loadLimit index value) .state (marks s.guard)))
      ∧ (index.toNat < 6 → s.op = .config → s.guard.lock = true →
        exec (.loadTableLimit seq index value) s
          = .next (s.replied seq (.loadLimit index value) .locked (marks s.guard)))
      ∧ (∀ k : Fin 6, index.toNat = k.val → (s.op = .held ∨ s.op = .config ∧ s.guard.lock = false) →
        let lo : Vector Int 6 := #v[4200, 2000, 400, 0, 1000, 50]
        let hi : Vector Int 6 := #v[4800, 3200, 850, 8000, 8000, 2000]
        let given : Int := if k.val = 2 then value.toInt else value.toNat
        let x := max lo[k] (min hi[k] given)
        let g : GuardUnit := { s.guard with limits := s.guard.limits.set k x }
        exec (.loadTableLimit seq index value) s
          = .next (State.replied { s with guard := g } seq (.loadLimit index value)
              (if x = given then .ok else .clamped)
              ((if k.val = 5 then .long x else .word x) :: marks g)))

/-- The hub's two laws of protected tables, over every row: with no command waiting to issue, the limit table changes only in
HELD or in CONFIG with the lock clear, and no entry of the active bank changes (R31, R71). -/
def Obligations.ProtectedTables : Prop :=
  ∀ (i : Instr) (s t : State), s.quiet = true → i ≠ .powerOnOrRst → exec i s = .next t →
    (t.guard.limits ≠ s.guard.limits → s.op = .held ∨ (s.op = .config ∧ s.guard.lock = false))
      ∧ (∀ id, s.activeBank = some id → t.seqr.bank id = s.seqr.bank id)

/-- LOAD_TABLE to the route table, in every operating state: a bad index, a pass code that names no setting, annotated on an
INPUT or STAGE entry, and use or a pass on an entry whose kind does not fit its node are refused; otherwise N is clamped and
the entry stored with its counter at 0 (R175). Bits of the route word that R183 does not name are ignored by the model
(log 13). -/
def Obligations.RouteTableWritten : Prop :=
  ∀ (s : State) (seq index : Byte) (value : Word), s.ready = true →
    let code := value.toNat / 2 % 4
    let use : Bool := value.getLsbD 0
    let fits (k : Nat) : Prop := k = 0 ∨ k = 3 ∨ k = 7 ∨ k = 11
    (index.toNat ≥ 12 ∨ code = 3 ∨ (code = 2 ∧ index.toNat % 3 ≠ 0)
        ∨ (¬ fits index.toNat ∧ (use = true ∨ code ≠ 0)) →
        exec (.loadTableRoute seq index value) s = .next (s.replied seq (.loadRoute index value) .badEntry []))
      ∧ (∀ (k : Fin 12) (p : Pass), index.toNat = k.val → p.code = code → (p = .annotated → k.val % 3 = 0) →
          (fits k.val ∨ (use = false ∧ p = .off)) →
          let n := max 1 (min 64 (value.toNat / 256))
          exec (.loadTableRoute seq index value) s
            = .next (State.replied { s with routes := s.routes.set k ⟨use, p, n, 0⟩ } seq (.loadRoute index value)
                (if n = value.toNat / 256 then .ok else .clamped) [.word (256 * n + 2 * code + use.toNat : Nat)]))

/-- READ_TABLE returns what its table's rule gives, in every operating state, and changes no block; an unknown table or a bad
index is refused (R16, R69, R71, R90, R123, R167, R175). The widths of the route table's word and counter and of percent and
mAh entries, the results of a bad index and the marks of the relations are the model's (log 8, log 12, log 33). -/
def Obligations.TableRead : Prop :=
  ∀ (s : State) (seq table index : Byte), s.ready = true →
    let answers (status : Status) (results : List Field) : Prop :=
      exec (.readTable seq table index) s = .next (s.replied seq (.readTable table index) status results)
    let relations : List Field :=
      [.mark (!decide (s.guard.softOv < s.guard.hardOv)), .mark (!decide (s.guard.softUv > s.guard.hardUv)),
       .mark (!decide (s.guard.chgTmax < s.guard.hardOt))]
    let related : List Field := [.mark (decide (s.balance.shuttleStop < s.balance.shuttleStart))]
    (table.toNat ≥ 7 → answers .badEntry [])
      ∧ (∀ k : Fin 5, table = 0 → index.toNat = k.val → answers .ok [.word s.cells.table[k]])
      ∧ (∀ k : Fin 16, table = 1 → index.toNat = k.val →
          answers .ok [.word s.cells.ocv.points[k].x, .word s.cells.ocv.points[k].y, .mark s.cells.ocv.valid])
      ∧ (∀ k : Fin 8, table = 2 → index.toNat = k.val →
          answers .ok [.word s.path.derate.points[k].x, .word s.path.derate.points[k].y, .mark s.path.derate.valid])
      ∧ (∀ k : Fin 8, table = 3 → index.toNat = k.val → answers .ok (.word s.guard.table[k] :: relations))
      ∧ (∀ k : Fin 6, table = 4 → index.toNat = k.val →
          answers .ok
            ((if k.val = 5 then .long s.guard.limits[k] else .word s.guard.limits[k]) :: .mark s.guard.lock :: relations))
      ∧ (∀ k : Fin 7, table = 5 → index.toNat = k.val → answers .ok (.word s.balance.table[k] :: related))
      ∧ (∀ k : Fin 12, table = 6 → index.toNat = k.val →
          let e := s.routes[k]
          answers .ok [.word (256 * e.n + 2 * e.pass.code + e.use.toNat : Nat), .byte e.counter])
      ∧ (table = 0 → index.toNat ≥ 5 → answers .badEntry [])
      ∧ (table = 1 → index.toNat ≥ 16 → answers .badEntry [.mark s.cells.ocv.valid])
      ∧ (table = 2 → index.toNat ≥ 8 → answers .badEntry [.mark s.path.derate.valid])
      ∧ (table = 3 → index.toNat ≥ 8 → answers .badEntry [])
      ∧ (table = 4 → index.toNat ≥ 6 → answers .badEntry (.mark s.guard.lock :: relations))
      ∧ (table = 5 → index.toNat ≥ 7 → answers .badEntry related)
      ∧ (table = 6 → index.toNat ≥ 12 → answers .badEntry [])

/-! ## The guard unit's commands -/

/-- LOCK sets the lock in every operating state and tells whether it was set; OVERRIDE is refused outside RUN, and in RUN with
a code other than set or clear; clear drops the
host request mark and leaves the set, set raises it and adds HOST_SET where it is absent, with an override evaluation over the
last round: the effective step, the dwell's pause, the hand-over, the computation and its setpoint (R47, R53, R73, R80 to R82).
That the state is checked before the code is an inference (log 34). -/
def Obligations.LockAndOverride : Prop :=
  ∀ (s : State) (seq : Byte), s.ready = true →
    exec (.lock seq) s = .next (State.replied { s with guard.lock := true } seq .lock .ok [.mark s.guard.lock])
      ∧ (s.op ≠ .run →
          exec (.overrideSet seq) s = .next (s.replied seq (.override 1) .state [])
            ∧ exec (.overrideClear seq) s = .next (s.replied seq (.override 0) .state []))
      ∧ (∀ code : Byte, code ≠ 0 → code ≠ 1 →
          exec (.command hubAddress processorAddress seq (encodeCommand (.override code))) s
            = .next (s.replied seq (.override code) (if s.op = .run then .badEntry else .state) []))
      ∧ (s.op = .run →
          exec (.overrideClear seq) s
            = .next (State.replied { s with guard.hostReq := false } seq (.override 0) .ok
                [.mark false, .causes s.guard.causes, .mark false]))
      ∧ (s.op = .run → s.guard.causes.hostSet = true →
          exec (.overrideSet seq) s
            = .next (State.replied { s with guard.hostReq := true } seq (.override 1) .ok
                [.mark true, .causes s.guard.causes, .mark false]))
      ∧ (s.op = .run → s.guard.causes.hostSet = false →
          ∃ t, exec (.overrideSet seq) s = .next t
            ∧ t.guard
                = { s.guard with hostReq := true, causes := { s.guard.causes with hostSet := true },
                                 changes := (s.guard.changes + 1) % 256 }
            ∧ s.sameTables t ∧ t.seqr.stored = s.seqr.stored ∧ t.seqr.t = s.seqr.t ∧ t.seqr.d = s.seqr.d
            ∧ t.seqr.designation = s.seqr.designation
            ∧ t.cmd.held.length = s.cmd.held.length + 1 ∧ t.head = none
            ∧ (s.profiled = true → t.op = .run ∧ t.seqr.swap = s.seqr.swap ∧ t.seqr.goto = s.seqr.goto
                ∧ t.hold = s.hold ∧ s.overridden t))

/-! ## State control and the hold unit -/

/-- A START that passes its checks: the lock is set, the bank designated, the step entered fresh, ship mode cleared, the state
RUN, and STALE and LINK seeded (R45, R73, R84, R186, R187); the step in force, stored or override, is handed over with the last
round, or with none a setpoint is called for (R50, R81, R89), whose computation shows no step, the model's choice (log 41). -/
def Obligations.StartRuns : Prop :=
  ∀ (s : State) (seq bank row col : Byte) (a : StepAddr) (e : StepEntry), s.ready = true → s.op = .config →
    addressOf bank row col = some a → s.startFailure a = none → s.entryAt a = some e → s.guard.causes = Causes.none →
    let stale : Bool := decide ((s.cell .one).monitor ≠ .fresh) || decide ((s.cell .two).monitor ≠ .fresh)
    let seeded : Causes := { Causes.none with stale := stale, link := s.guard.linkMark }
    ∃ t, exec (.start seq bank row col) s = .next t
      ∧ t.op = .run ∧ t.path.ship = false ∧ s.sameTables t
      ∧ t.guard
          = { s.guard with lock := true, causes := seeded,
                           changes := if seeded = Causes.none then s.guard.changes else (s.guard.changes + 1) % 256 }
      ∧ t.seqr.designation = some a.bank ∧ t.seqr.stored = some a ∧ t.seqr.t = false ∧ t.seqr.d = false
      ∧ t.seqr.firstEval = true ∧ t.seqr.lastTest = none ∧ t.seqr.swap = s.seqr.swap ∧ t.seqr.goto = s.seqr.goto
      ∧ t.seqr.dwell
          = (match e.dwell with
             | none => .noDwell
             | some n => if seeded = Causes.none then .running (1000 * n) else .paused (1000 * n))
      ∧ s.entersRun t
      ∧ t.path.present = s.path.present ∧ t.path.pendingOffer = s.path.pendingOffer
      ∧ t.path.acceptedOffer = s.path.acceptedOffer ∧ t.path.stage = s.path.stage ∧ t.hold = s.hold
      ∧ (s.link.sendingU.isSome → s.out.replies = [] →
          t.out.replies
            = [⟨some s.freePlace, .ok, seq,
                [.step (some a), .bank (some a.bank), .step t.seqr.effective, .causes seeded, .mark s.guard.lock,
                 .mark s.cells.lastRound.isSome]⟩])

/-- A refused START changes nothing: STATE outside CONFIG, BAD_ENTRY for a bad address, and BAD_TABLE with the number of the
first start condition that fails (R186). That a bad address carries no number, and the marks of condition 7, are the model's
choice (log 14, log 33). -/
def Obligations.StartRefused : Prop :=
  ∀ (s : State) (seq bank row col : Byte), s.ready = true →
    let refused (status : Status) (results : List Field) : Prop :=
      exec (.start seq bank row col) s = .next (s.replied seq (.start bank row col) status results)
    (s.op ≠ .config → refused .state [])
      ∧ (s.op = .config → addressOf bank row col = none → refused .badEntry [])
      ∧ ∀ a, s.op = .config → addressOf bank row col = some a →
          ((a.row.val = 11 ∨ s.entryAt a = none) → refused .badTable [.byte 1])
          ∧ (a.row.val ≠ 11 → (s.entryAt a).isSome →
            (∀ k : Fin 8, bankEntry (s.seqr.bank a.bank) 11 k = none →
                (∀ j : Fin 8, j < k → (bankEntry (s.seqr.bank a.bank) 11 j).isSome) →
                refused .badTable [.byte 2, .byte k.val])
            ∧ ((∀ j : Fin 8, (bankEntry (s.seqr.bank a.bank) 11 j).isSome) →
              (s.path.derate.valid = false → refused .badTable [.byte 3])
              ∧ (s.path.derate.valid = true → s.cells.ocv.valid = false → refused .badTable [.byte 4])
              ∧ (s.path.derate.valid = true → s.cells.ocv.valid = true →
                (s.cells.capacity .one = 0 → refused .badTable [.byte 5, .byte 1])
                ∧ (s.cells.capacity .one ≠ 0 → s.cells.capacity .two = 0 → refused .badTable [.byte 5, .byte 2])
                ∧ (s.cells.capacity .one ≠ 0 → s.cells.capacity .two ≠ 0 →
                  ((s.cell .one).known = false → refused .badTable [.byte 6, .byte 1])
                  ∧ ((s.cell .one).known = true → (s.cell .two).known = false → refused .badTable [.byte 6, .byte 2])
                  ∧ ((s.cell .one).known = true → (s.cell .two).known = true →
                    let g := s.guard
                    ((g.softOv ≥ g.hardOv ∨ g.softUv ≤ g.hardUv ∨ g.chgTmax ≥ g.hardOt) →
                      refused .badTable
                        [.byte 7, .mark (decide (g.softOv ≥ g.hardOv)), .mark (decide (g.softUv ≤ g.hardUv)),
                         .mark (decide (g.chgTmax ≥ g.hardOt))])
                    ∧ (g.softOv < g.hardOv → g.softUv > g.hardUv → g.chgTmax < g.hardOt →
                        s.balance.shuttleStop ≥ s.balance.shuttleStart → refused .badTable [.byte 8]))))))

/-- STOP in RUN: CONFIG, GATE low, swap and goto gone, no dwell, no effective step, the cause set empty, the shuttle ended and
the bleeds off, the hand-over record empty; the stored step and its flags, the banks, the tables, the offers and the hold
record kept (R66, R85, R138, R189). Elsewhere it is refused with STATE. The shuttle's end calls for no setpoint beside CONFIG's
(log 44). -/
def Obligations.StopLeavesRun : Prop :=
  ∀ (s : State) (seq : Byte), s.ready = true →
    (s.op ≠ .run → exec (.stop seq) s = .next (s.replied seq .stop .state []))
      ∧ (s.op = .run →
          ∃ t, exec (.stop seq) s = .next t
            ∧ t.op = .config ∧ t.gate = false ∧ s.sameTables t ∧ t.hold = s.hold
            ∧ t.seqr = { s.seqr with swap := none, goto := none, dwell := .noDwell, effective := none }
            ∧ t.guard
                = { s.guard with causes := Causes.none, hostReq := false,
                                 changes := if s.guard.causes = Causes.none then s.guard.changes
                                            else (s.guard.changes + 1) % 256 }
            ∧ t.balance.shuttle.active = false ∧ t.anyBleed = false
            ∧ (s.balance.shuttle.active = true → t.balance.shuttle.endReason = .aborted .stop
                ∧ t.balance.shuttle.lastTransferred = s.balance.shuttle.transferred)
            ∧ (s.balance.shuttle.active = false → t.balance.shuttle = s.balance.shuttle)
            ∧ t.path.handOver = none ∧ t.path.computation = s.path.computation ∧ t.path.present = s.path.present
            ∧ t.path.pendingOffer = s.path.pendingOffer ∧ t.path.acceptedOffer = s.path.acceptedOffer
            ∧ (let p : Setpoint :=
                 ⟨if s.path.ship then .ship else if s.path.present then .adapter else .battery, 0, .off, 0, .config⟩
               (s.cmd.nodes.get .s4 = .empty →
                  (∃ q, t.path.lastSetpoint = some ⟨p, q⟩ ∧ t.cmd.nodes.get .s4 = .setpoint ⟨p, q⟩ 0)
                    ∧ t.path.slot = s.path.slot)
               ∧ (s.cmd.nodes.get .s4 ≠ .empty → t.path.slot = some p ∧ t.path.lastSetpoint = s.path.lastSetpoint
                    ∧ t.cmd.nodes = s.cmd.nodes)))

/-- HOLD in RUN enters HELD with the cause HOST, its code trapped, and the snapshot of what stood, queues the HOLD alert, calls
for HELD's zero setpoint and replies OK with the record just written; elsewhere it is refused with STATE and the operating state
(R65, R107, R113, R115, R142 to R146). The
order and form of the record's fields are in part the model's (log 8, log 31), and the shuttle's end calls
for no setpoint beside the zero one (log 44). -/
def Obligations.HoldEnters : Prop :=
  ∀ (s : State) (seq : Byte) (code : Option Word), s.ready = true →
    (s.op ≠ .run → exec (.hold seq code) s = .next (s.replied seq (.hold code) .state [.byte s.op.code]))
      ∧ (s.op = .run →
          ∃ t, exec (.hold seq code) s = .next t
            ∧ t.op = .held ∧ t.gate = false ∧ s.sameTables t
            ∧ t.hold.pendingHold = s.hold.pendingHold
            ∧ t.hold.record
                = some
                    { cause :=
                        ⟨.host, .host, match code with | some w => .code w | none => .absent, none, false⟩
                      stored := s.seqr.stored, t := s.seqr.t, d := s.seqr.d
                      dwellLeft :=
                        (match s.seqr.dwell with
                         | .running ms => some ms
                         | .paused ms => some ms
                         | .noDwell => none
                         | .expired => none)
                      causes := s.guard.causes
                      shuttle :=
                        if s.balance.shuttle.active then
                          s.balance.shuttle.source.map fun c => (c, s.balance.shuttle.remaining)
                        else none
                      swapCancelled := s.seqr.swap.isSome, reentry := false, repeated := false, resolution := none }
            ∧ t.guard = s.guard
            ∧ t.seqr
                = { s.seqr with
                    swap := none, goto := none,
                    dwell := match s.seqr.dwell with | .running ms => .paused ms | w => w }
            ∧ t.balance.shuttle.active = false ∧ t.anyBleed = false
            ∧ (s.balance.shuttle.active = true → t.balance.shuttle.endReason = .aborted .hold)
            ∧ t.path.handOver = none ∧ t.path.computation = s.path.computation ∧ t.path.present = s.path.present
            ∧ t.path.pendingOffer = s.path.pendingOffer ∧ t.path.acceptedOffer = s.path.acceptedOffer
            ∧ s.calledFor t (zeroSetpoint .held s.path.ship s.path.present)
            ∧ (∀ r, t.hold.record = some r → s.link.sendingU.isSome → s.out.replies = [] → s.seqr.swap = none →
                t.out.replies = [⟨some s.freePlace, .ok, seq, r.fields⟩] ∧ ⟨.hold, r.fields⟩ ∈ t.out.alerts)
            ∧ (∀ r, t.hold.record = some r → s.link.sendingU.isSome →
                (⟨some s.freePlace, .ok, seq, r.fields⟩ : Reply) ∈ t.out.replies))

/-- RESUME with CONTINUE, RETRY, HOME or STEP in HELD, over a profile that can run: the breach marks are emptied and the
disposition written; with no pending hold the hub is in RUN in the step the disposition places, and the step in force, stored or
override, is handed over with the last round, or with none a setpoint is called for; with one it holds again. The OK reply tells
which (R18, R45, R50, R81, R149 to R152). In another state each is refused with STATE, and HOME and STEP with BAD_ENTRY where the place
they name is not a filled position of the active bank; the zeros behind a held-again mark of 0 are the
model's (log 8), a RESUME that finds the HELD setpoint still in the slot replaces it (log 37), and a computation with no round shows no step
(log 41). -/
def Obligations.ResumePlaces : Prop :=
  (∀ (s : State) (seq row col : Byte), s.ready = true →
      let results (d : Nat) : List Field :=
        [.byte d, .byte s.op.code, .step s.seqr.stored]
          ++ optional none (fun h => [.byte h.cause.kind.code, .byte h.cause.source.code] ++ h.cause.value.fields)
              HoldRecord.blank
      (s.op ≠ .held →
          exec (.resumeContinue seq) s = .next (s.replied seq (.resume 0) .state (results 0))
            ∧ exec (.resumeRetry seq) s = .next (s.replied seq (.resume 1) .state (results 1))
            ∧ exec (.resumeHome seq) s = .next (s.replied seq (.resume 2) .state (results 2))
            ∧ exec (.resumeStep seq row col) s = .next (s.replied seq (.resumeStep row col) .state (results 3)))
        ∧ (∀ id, s.op = .held → s.seqr.designation = some id →
            (s.entryAt ⟨id, 0, 0⟩ = none →
                exec (.resumeHome seq) s = .next (s.replied seq (.resume 2) .badEntry (results 2)))
            ∧ ((∀ p, positionOf row col = some p → s.entryAt ⟨id, profileRow p.1, p.2⟩ = none) →
                exec (.resumeStep seq row col) s = .next (s.replied seq (.resumeStep row col) .badEntry (results 3)))))
  ∧ ∀ (s : State) (seq row col : Byte) (i : Instr) (d : Disposition) (placed : StepAddr) (stored : StepAddr),
    s.ready = true → s.profiled = true → s.seqr.stored = some stored →
    ((i = .resumeContinue seq ∧ d = .continue ∧ placed = stored)
      ∨ (i = .resumeRetry seq ∧ d = .retry ∧ placed = stored)
      ∨ (i = .resumeHome seq ∧ d = .home ∧ placed = ⟨stored.bank, 0, 0⟩)
      ∨ (i = .resumeStep seq row col ∧ d = .step
          ∧ ∃ p, positionOf row col = some p ∧ placed = ⟨stored.bank, profileRow p.1, p.2⟩)) →
    let k : HubCommand :=
      match d with
      | .continue => .resume 0
      | .retry => .resume 1
      | .home => .resume 2
      | .step => .resumeStep row col
      | .stop => .resume 4
    let answered (t : State) (again : Option HoldRecord) : Prop :=
      (⟨some s.freePlace, .ok, seq,
        [.byte d.code, .byte t.op.code, .step (some placed)]
          ++ optional again (fun h => [.byte h.cause.kind.code, .byte h.cause.source.code] ++ h.cause.value.fields)
              HoldRecord.blank⟩ : Reply) ∈ t.out.replies
    (s.op ≠ .held →
        exec i s = .next (s.replied seq k .state
          ([.byte d.code, .byte s.op.code, .step s.seqr.stored]
            ++ optional none (fun h => [.byte h.cause.kind.code, .byte h.cause.source.code] ++ h.cause.value.fields)
                HoldRecord.blank)))
      ∧ (∀ e, s.op = .held → s.entryAt placed = some e →
          ∃ t, exec i s = .next t ∧ s.sameTables
              { t with
                cells.records :=
                  ⟨{ t.cells.records.one with breach := s.cells.records.one.breach },
                   { t.cells.records.two with breach := s.cells.records.two.breach }⟩ }
            ∧ (t.cell .one).breach = Breach.none ∧ (t.cell .two).breach = Breach.none
            ∧ t.seqr.designation = s.seqr.designation ∧ t.seqr.stored = some placed ∧ t.guard = s.guard
            ∧ (d = .continue → t.seqr.t = s.seqr.t ∧ t.seqr.d = s.seqr.d ∧ t.seqr.firstEval = s.seqr.firstEval
                ∧ t.seqr.dwell.left = s.seqr.dwell.left)
            ∧ (d ≠ .continue → t.seqr.t = false ∧ t.seqr.d = false ∧ t.seqr.firstEval = true ∧ t.seqr.lastTest = none
                ∧ t.seqr.dwell.left = e.dwell.map (1000 * ·))
            ∧ (s.hold.pendingHold = none →
                t.op = .run ∧ t.hold.pendingHold = none
                  ∧ t.hold.record = s.hold.record.map (fun h => { h with resolution := some (.resumed d) })
                  ∧ s.entersRun t ∧ (s.link.sendingU.isSome → answered t none))
            ∧ (∀ cause, s.hold.pendingHold = some cause →
                t.op = .held ∧ t.gate = false ∧ t.hold.pendingHold = none
                  ∧ ∃ r, t.hold.record = some r ∧ r.cause = cause ∧ r.reentry = true ∧ r.stored = some placed
                      ∧ r.resolution = none ∧ s.calledFor t (zeroSetpoint .held s.path.ship s.path.present)
                      ∧ (s.link.sendingU.isSome → answered t (some r))))

/-- RESUME STOP in HELD: CONFIG, the pending hold discarded and the record resolved STOP, the cause set emptied, no dwell and
no effective step, and CONFIG's setpoint called for (R66, R85, R107, R113, R149, R153). In another state it is refused with STATE; the zeros
behind that refusal's held-again mark are the model's (log 8). -/
def Obligations.ResumeStopLeaves : Prop :=
  ∀ (s : State) (seq : Byte), s.ready = true →
    (s.op ≠ .held →
        exec (.resumeStop seq) s
          = .next (s.replied seq (.resume 4) .state
              ([.byte 4, .byte s.op.code, .step s.seqr.stored]
                ++ optional none (fun h => [.byte h.cause.kind.code, .byte h.cause.source.code] ++ h.cause.value.fields)
                    HoldRecord.blank)))
      ∧ (s.op = .held →
          ∃ t, exec (.resumeStop seq) s = .next t
            ∧ t.op = .config ∧ t.gate = false ∧ t.hold.pendingHold = none
            ∧ t.hold.record = s.hold.record.map (fun h => { h with resolution := some (.resumed .stop) })
            ∧ t.seqr = { s.seqr with swap := none, goto := none, dwell := .noDwell, effective := none }
            ∧ t.guard
                = { s.guard with causes := Causes.none, hostReq := false,
                                 changes := if s.guard.causes = Causes.none then s.guard.changes
                                            else (s.guard.changes + 1) % 256 }
            ∧ (t.cell .one).breach = Breach.none ∧ (t.cell .two).breach = Breach.none
            ∧ t.balance.shuttle.active = false ∧ t.anyBleed = false ∧ t.balance.table = s.balance.table
            ∧ t.path.handOver = none ∧ t.path.derate = s.path.derate ∧ t.routes = s.routes ∧ t.fold = s.fold
            ∧ s.calledFor t (zeroSetpoint .config s.path.ship s.path.present))

/-! ## The path unit's commands -/

/-- OFFER: a class above 3 is refused with BAD_ENTRY, input absent with STATE and the input presence; otherwise the clamped
offer is pending, replacing any, and the accepted offer is untouched (R109). That its current is read without a sign, and how
the offers stand in the reply, are the model's (log 8, log 27). -/
def Obligations.OfferTaken : Prop :=
  ∀ (s : State) (seq : Byte) (v i : Word) (cls : Byte), s.ready = true →
    (cls.toNat > 3 → exec (.offer seq v i cls) s = .next (s.replied seq (.offer v i cls) .badEntry []))
      ∧ (cls.toNat ≤ 3 → s.path.present = false →
          exec (.offer seq v i cls) s = .next (s.replied seq (.offer v i cls) .state [.mark false]))
      ∧ (∀ k : Fin 4, cls.toNat = k.val → s.path.present = true →
          let volts : Int := max 5000 (min 20000 v.toNat)
          let amps : Int := max 500 (min 5000 i.toNat)
          exec (.offer seq v i cls) s
            = .next (State.replied { s with path.pendingOffer := some ⟨volts, amps, k⟩ } seq (.offer v i cls)
                (if volts = v.toNat ∧ amps = i.toNat then .ok else .clamped)
                ([.word volts, .word amps, .byte k.val]
                  ++ (match s.path.acceptedOffer with
                      | some o => [.mark true, .word o.voltage, .word o.current, .byte o.cls.val]
                      | none => [.mark false, .word 0, .word 0, .byte 0])
                  ++ [.mark true, .mark s.path.pendingOffer.isSome])))

/-- ACCEPT promotes the pending offer, or is refused with BAD_ENTRY where there is none; WITHDRAW clears both offers. Neither
calls for a setpoint (R110, R111). -/
def Obligations.AcceptAndWithdraw : Prop :=
  ∀ (s : State) (seq : Byte), s.ready = true →
    (s.path.pendingOffer = none → exec (.accept seq) s = .next (s.replied seq .accept .badEntry []))
      ∧ (∀ o, s.path.pendingOffer = some o →
          exec (.accept seq) s
            = .next (State.replied { s with path.acceptedOffer := some o, path.pendingOffer := none } seq .accept .ok
                [.word o.voltage, .word o.current, .byte o.cls.val]))
      ∧ exec (.withdraw seq) s
          = .next (State.replied { s with path.pendingOffer := none, path.acceptedOffer := none } seq .withdraw .ok
              [.mark s.path.pendingOffer.isSome, .mark s.path.acceptedOffer.isSome])

/-- SHIP: refused outside CONFIG; with ship mode set it does nothing; otherwise ship mode is set and the SETPOINT SHIP is sent,
or waits in the slot (R107, R112, R115). -/
def Obligations.ShipTaken : Prop :=
  ∀ (s : State) (seq : Byte), s.ready = true →
    (s.op ≠ .config → exec (.ship seq) s = .next (s.replied seq .ship .state []))
      ∧ (s.op = .config → s.path.ship = true → exec (.ship seq) s = .next (s.replied seq .ship .ok [.mark true]))
      ∧ (s.op = .config → s.path.ship = false →
          let p : Setpoint := ⟨.ship, 0, .off, 0, .config⟩
          (s.cmd.nodes.get .s4 ≠ .empty →
            exec (.ship seq) s
              = .next (State.replied { s with path.ship := true, path.slot := some p } seq .ship .ok [.mark false]))
          ∧ (s.cmd.nodes.get .s4 = .empty →
            ∃ t, exec (.ship seq) s = .next t
              ∧ t.path = { s.path with ship := true, lastSetpoint := some ⟨p, s.link.seqD⟩ } ∧ t.gate = false
              ∧ t.cmd.nodes = s.cmd.nodes.set .s4 (.setpoint ⟨p, s.link.seqD⟩ 0)
              ∧ t.link.portD = s.link.portD ++ [setpointFrame p s.link.seqD] ∧ t.link.seqD = s.link.seqD + 1
              ∧ t.op = s.op ∧ t.cells = s.cells ∧ t.seqr = s.seqr ∧ t.guard = s.guard ∧ t.balance = s.balance
              ∧ t.hold = s.hold ∧ t.routes = s.routes ∧ t.fold = s.fold))

/-! ## Balancing -/

/-- The shuttle's starts, and the decisions of a hand-over in their order. An override ends an ACTIVE shuttle and sets every bleed
off; otherwise the end checks, reversal before permission, end an ACTIVE one; an IDLE shuttle starts where a start is called
for, but with a bleed on the bleed goes off and the start waits; the bleed decision follows where no start was called for (R125,
R129, R131). BALANCE SHUTTLE, with the shuttle IDLE, is refused on a bad cell, outside RUN or with a cause in the set, and on an
amount of 0; otherwise the bleeds go off, the cooldown is cancelled and the host's shuttle starts with the amount given or sized
at half the difference, and a setpoint with it is called for (R113, R129, R135). -/
def Obligations.ShuttleStarted : Prop :=
  (∀ (s : State) (r : Summary) (perm : Permission) (isOverride : Bool) (mode : Mode),
      let t := s.balanceDecision r perm isOverride mode
      let x := s.balance.shuttle
      let y : Shuttle := { x with permission := some perm, overrideMark := isOverride }
      let permitted : Prop := perm = .shuttle ∨ perm = .any
      let ended (why : EndReason) : Shuttle :=
        { y with
          active := false, endReason := why, lastTransferred := x.transferred
          cooldown := if s.balance.cooldownMs = 0 then none else some s.balance.cooldownMs }
      let isReversed : Prop :=
        ∃ c, x.source = some c ∧ x.lead > 0 ∧ r.lead c < 0 ∧ r.lead c ≤ -s.balance.shuttleStop
      let off (b : BleedRecord) : BleedRecord := if b.on then { b with on := false, origin := .none } else b
      let allOff : Prop := t.anyBleed = false ∧ ∀ c, (s.balance.bleeds.get c).on = true →
        t.balance.bleeds.get c = off (s.balance.bleeds.get c)
      let frames : List Frame :=
        match s.balance.bleeds.one.on, s.balance.bleeds.two.on with
        | true, true => [bleedFrame .one false s.link.seqD, bleedFrame .two false (s.link.seqD + 1)]
        | true, false => [bleedFrame .one false s.link.seqD]
        | false, true => [bleedFrame .two false s.link.seqD]
        | false, false => []
      let withIdle (idle : Shuttle) : Prop :=
        let called : Prop :=
          permitted ∧ idle.cooldown = none ∧ (∀ c, ¬ ((s.balance.bleeds.get c).on = true ∧ (s.balance.bleeds.get c).origin = .host))
            ∧ |(r.soc1 : Int) - r.soc2| ≥ s.balance.shuttleStart
        let bled := s.bleedDecision r perm mode
        (called → s.anyBleed = true → t.balance.shuttle = idle ∧ allOff ∧ t.link.portD = s.link.portD ++ frames)
          ∧ (called → s.anyBleed = false → ∀ c, r.lead c > 0 →
              let amount : Nat :=
                (r.lead c).toNat * min (s.cells.capacity .one * 36000000) (s.cells.capacity .two * 36000000) / 2000
              t.balance.shuttle
                  = { idle with
                      active := true, origin := .auto, source := some c, lead := r.lead c, amount := amount
                      remaining := amount, transferred := 0, elapsed := 0, length := s.balance.limitMs }
                ∧ t.balance.bleeds = s.balance.bleeds ∧ t.link = s.link)
          ∧ (¬ called →
              t.balance.shuttle = idle ∧ t.balance.bleeds = bled.balance.bleeds ∧ t.link.portD = bled.link.portD)
      s.sameTables t ∧ t.op = s.op ∧ t.gate = s.gate ∧ t.seqr = s.seqr ∧ t.guard = s.guard ∧ t.path = s.path
        ∧ t.hold = s.hold ∧ t.cmd = s.cmd
        ∧ (isOverride = true →
            allOff ∧ t.link.portD = s.link.portD ++ frames
              ∧ t.balance.shuttle = (if x.active then ended (.aborted .override) else y))
        ∧ (isOverride = false → x.active = true → isReversed → withIdle (ended .done))
        ∧ (isOverride = false → x.active = true → ¬ isReversed → x.origin = .auto → ¬ permitted →
            withIdle (ended (.aborted .permission)))
        ∧ (isOverride = false → x.active = true → ¬ isReversed → (x.origin ≠ .auto ∨ permitted) →
            t = { s with balance.shuttle := y })
        ∧ (isOverride = false → x.active = false → withIdle y))
  ∧ ∀ (s : State) (seq cell : Byte) (given : Option (Word × Byte)), s.ready = true → s.balance.shuttle.active = false →
    let full : Nat := min (s.cells.capacity .one * 36000000) (s.cells.capacity .two * 36000000)
    let dsoc : Int := ((s.cell .one).soc : Int) - (s.cell .two).soc
    let asked : Nat :=
      match given with
      | some (m, e) => m.toNat * 2 ^ e.toNat
      | none => dsoc.natAbs * full / 2000
    let refused (status : Status) : Prop :=
      exec (.balanceShuttle seq cell given) s = .next (s.replied seq (.shuttle cell given) status [])
    (cell ≠ 1 → cell ≠ 2 → refused .badEntry)
      ∧ (cell = 1 ∨ cell = 2 → (s.op ≠ .run ∨ s.guard.causes ≠ Causes.none) → refused .state)
      ∧ (cell = 1 ∨ cell = 2 → s.op = .run → s.guard.causes = Causes.none → asked = 0 → refused .badEntry)
      ∧ (∀ k : CellId, cell.toNat = cellNumber k → s.op = .run → s.guard.causes = Causes.none → asked ≠ 0 →
          ∃ t, exec (.balanceShuttle seq cell given) s = .next t
            ∧ t.balance.shuttle
                = { s.balance.shuttle with
                    active := true, origin := .host, source := some k
                    lead := ((s.cell k).soc : Int) - (s.cell (otherCell k)).soc
                    amount := if given.isSome then min asked full else asked
                    remaining := ((if given.isSome then min asked full else asked : Nat) : Int)
                    transferred := 0, elapsed := 0, length := s.balance.limitMs, cooldown := none }
            ∧ t.anyBleed = false ∧ s.sameTables t ∧ t.op = .run ∧ t.seqr = s.seqr ∧ t.guard = s.guard ∧ t.hold = s.hold
            ∧ t.path.handOver = s.path.handOver ∧ t.path.present = s.path.present ∧ s.computedFor t s.compute
            ∧ (s.link.sendingU.isSome → s.out.replies = [] →
                t.out.replies
                  = [⟨some s.freePlace, if given.isSome ∧ full < asked then .clamped else .ok, seq,
                      t.balance.shuttle.fields⟩]))

/-- The bleeds. The bleed decision of a hand-over first switches off each AUTO bleed whose conditions have gone, then, with none
on, switches on the cell that leads far enough; each change sends its frame, cell 1's first (R126, R127). A sample whose bleeding
flag disagrees with the record counts it and repeats the record's frame (R127). BALANCE BLEED and BALANCE STOP: what refuses
them, and what they set: one cell's bleed on for the host with the other off, one off, or everything ended, where the end of an
ACTIVE shuttle calls for a setpoint (R113, R127, R128, R133, R136, R137). -/
def Obligations.BleedAndStop : Prop :=
  (∀ (s : State) (r : Summary) (perm : Permission) (mode : Mode),
      let t := s.bleedDecision r perm mode
      let allowed (c : CellId) : Prop :=
        (perm = .bleed ∨ perm = .any) ∧ mode = .charge ∧ r.voltage c ≥ s.balance.bleedVoltage
      let stops (c : CellId) : Prop :=
        (s.balance.bleeds.get c).on = true ∧ (s.balance.bleeds.get c).origin = .auto
          ∧ (¬ allowed c ∨ r.lead c ≤ s.balance.shuttleStop)
      let left (c : CellId) : Prop := (s.balance.bleeds.get c).on = true ∧ ¬ stops c
      let starts (c : CellId) : Prop :=
        ¬ left .one ∧ ¬ left .two ∧ r.lead c > 0 ∧ allowed c ∧ r.lead c ≥ s.balance.bleedStart
      (∀ c,
          (starts c → t.balance.bleeds.get c = { s.balance.bleeds.get c with on := true, origin := .auto })
            ∧ (¬ starts c → stops c →
                t.balance.bleeds.get c = { s.balance.bleeds.get c with on := false, origin := .none })
            ∧ (¬ starts c → ¬ stops c → t.balance.bleeds.get c = s.balance.bleeds.get c))
        ∧ (∃ l1 l2 : List Bool,
            (∀ c l, (c = .one ∧ l = l1) ∨ (c = .two ∧ l = l2) →
                (stops c → starts c → l = [false, true]) ∧ (stops c → ¬ starts c → l = [false])
                  ∧ (¬ stops c → starts c → l = [true]) ∧ (¬ stops c → ¬ starts c → l = []))
              ∧ t.link.portD
                = s.link.portD
                  ++ (l1.map (CellId.one, ·) ++ l2.map (CellId.two, ·)).zipIdx.map
                      fun x => bleedFrame x.1.1 x.1.2 (s.link.seqD + BitVec.ofNat 8 x.2))
        ∧ t.balance.shuttle = s.balance.shuttle ∧ s.sameTables t ∧ t.op = s.op ∧ t.gate = s.gate ∧ t.seqr = s.seqr
        ∧ t.guard = s.guard ∧ t.path = s.path ∧ t.hold = s.hold ∧ t.cmd = s.cmd ∧ t.out = s.out)
  ∧ (∀ (s : State) (c : CellId) (flag : Bool),
      let b := s.balance.bleeds.get c
      (flag = b.on → s.compareBleed c flag = s)
        ∧ (flag ≠ b.on →
            let t := s.compareBleed c flag
            t.balance
                = { s.balance with
                    bleeds := s.balance.bleeds.set c { b with disagreements := min 255 (b.disagreements + 1) } }
              ∧ t.link.portD = s.link.portD ++ [bleedFrame c b.on s.link.seqD] ∧ t.link.seqD = s.link.seqD + 1
              ∧ s.sameTables t ∧ t.op = s.op ∧ t.gate = s.gate ∧ t.seqr = s.seqr ∧ t.guard = s.guard ∧ t.path = s.path
              ∧ t.hold = s.hold ∧ t.cmd = s.cmd ∧ t.out = s.out))
  ∧ ∀ (s : State) (seq cell setting : Byte), s.ready = true →
    ((cell ≠ 1 ∧ cell ≠ 2 ∨ setting ≠ 0 ∧ setting ≠ 1) →
        exec (.balanceBleed seq cell setting) s = .next (s.replied seq (.bleed cell setting) .badEntry []))
      ∧ ((cell = 1 ∨ cell = 2) → (setting = 0 ∨ setting = 1) → (s.op ≠ .run ∨ s.guard.causes ≠ Causes.none) →
          exec (.balanceBleed seq cell setting) s = .next (s.replied seq (.bleed cell setting) .state []))
      ∧ ((cell = 1 ∨ cell = 2) → setting = 1 → s.op = .run → s.guard.causes = Causes.none →
          s.balance.shuttle.active = true →
          exec (.balanceBleed seq cell setting) s
            = .next (s.replied seq (.bleed cell setting) .state s.balance.shuttle.fields))
      ∧ (∀ k : CellId, cell.toNat = cellNumber k → s.op = .run → s.guard.causes = Causes.none →
          ((setting = 1 ∧ s.balance.shuttle.active = false) ∨ setting = 0) →
          ∃ t, exec (.balanceBleed seq cell setting) s = .next t
            ∧ (setting = 1 →
                t.balance.bleeds.get k = { s.balance.bleeds.get k with on := true, origin := .host }
                  ∧ t.balance.bleeds.get (otherCell k)
                      = { s.balance.bleeds.get (otherCell k) with on := false, origin := .none })
            ∧ (setting = 0 →
                t.balance.bleeds.get k = { s.balance.bleeds.get k with on := false, origin := .none }
                  ∧ t.balance.bleeds.get (otherCell k) = s.balance.bleeds.get (otherCell k)
                  ∧ ((s.balance.bleeds.get k).on = true →
                      t.link.portD = s.link.portD ++ [bleedFrame k false s.link.seqD])
                  ∧ ((s.balance.bleeds.get k).on = false → t.link.portD = s.link.portD))
            ∧ t.balance.shuttle = s.balance.shuttle ∧ t.balance.table = s.balance.table ∧ t.op = s.op
            ∧ t.cells = s.cells ∧ t.seqr = s.seqr ∧ t.guard = s.guard ∧ t.path = s.path ∧ t.hold = s.hold
            ∧ t.gate = s.gate ∧ t.cmd.nodes = s.cmd.nodes)
      ∧ ((s.op ≠ .run ∨ s.guard.causes ≠ Causes.none) →
          exec (.balanceStop seq) s = .next (s.replied seq .balanceStop .state []))
      ∧ (s.op = .run → s.guard.causes = Causes.none →
          ∃ t, exec (.balanceStop seq) s = .next t
            ∧ t.balance.shuttle.active = false ∧ t.anyBleed = false ∧ s.sameTables t ∧ t.op = .run ∧ t.seqr = s.seqr
            ∧ t.guard = s.guard ∧ t.hold = s.hold ∧ t.path.handOver = s.path.handOver
            ∧ (s.balance.shuttle.active = true →
                t.balance.shuttle.endReason = .aborted .command
                  ∧ t.balance.shuttle.lastTransferred = s.balance.shuttle.transferred
                  ∧ t.balance.shuttle.cooldown = (if s.balance.cooldownMs = 0 then none else some s.balance.cooldownMs)
                  ∧ s.computedFor t s.compute)
            ∧ (s.balance.shuttle.active = false →
                t.balance.shuttle = s.balance.shuttle ∧ t.path = s.path ∧ t.gate = s.gate)
            ∧ (s.link.sendingU.isSome → s.out.replies = [] →
                t.out.replies
                  = [⟨some s.freePlace, .ok, seq, [.mark s.balance.shuttle.active, .mark s.anyBleed]⟩]))

/-! ## Charge and queries -/

/-- SET_CHARGE, with the shuttle IDLE: refused on a bad cell and on a capacity of 0; otherwise the content is set from the SOC
or the scaled charge, clamped, SOC follows and the charge-known mark is set (R8, R13, R14). -/
def Obligations.ChargeSet : Prop :=
  ∀ (s : State) (seq cell : Byte) (content : ChargeArg), s.ready = true → s.balance.shuttle.active = false →
    (cell ≠ 1 → cell ≠ 2 →
        exec (.setCharge seq cell content) s = .next (s.replied seq (.setCharge cell content) .badEntry []))
      ∧ (∀ k : CellId, cell.toNat = cellNumber k → s.cells.capacity k = 0 →
          exec (.setCharge seq cell content) s = .next (s.replied seq (.setCharge cell content) .badTable []))
      ∧ (∀ k : CellId, cell.toNat = cellNumber k → s.cells.capacity k ≠ 0 →
          let full := s.cells.capacity k * 36000000
          let q : Nat :=
            match content with
            | .soc p => min p.toNat 1000 * full / 1000
            | .scaled m e => min (m.toNat * 2 ^ e.toNat) full
          let clamped : Prop :=
            match content with
            | .soc p => p.toNat > 1000
            | .scaled m e => m.toNat * 2 ^ e.toNat > full
          let r : CellRecord := { s.cell k with charge := q, soc := q * 1000 / full, known := true }
          (clamped →
              exec (.setCharge seq cell content) s
                = .next ((s.setCell k r).replied seq (.setCharge cell content) .clamped
                    [.word (q * 1000 / full : Nat), .charge q]))
            ∧ (¬ clamped →
              exec (.setCharge seq cell content) s
                = .next ((s.setCell k r).replied seq (.setCharge cell content) .ok
                    [.word (q * 1000 / full : Nat), .charge q])))

/-- QUERY changes no block: it answers the part named of the record selected, in parts of 19 bytes, and refuses an unknown
selector, a cell other than 1 or 2 and a part at or beyond the count (R166, R182). How a record's fields make its bytes is in
part the model's choice (log 8, log 24, log 25, log 28, log 31, log 32, log 35, log 36, log 38,
log 40, log 42); that an argument byte is not read where R166 gives the
record none is an inference (log 23). -/
def Obligations.QueryAnswered : Prop :=
  ∀ (s : State) (seq selector argument part : Byte), s.ready = true →
    let k : HubCommand := .query selector argument part
    (selector.toNat > 5 ∨ (selector = 1 ∧ argument ≠ 1 ∧ argument ≠ 2) →
        exec (.query seq selector argument part) s = .next (s.replied seq k .badEntry []))
      ∧ (selector.toNat ≤ 5 → (selector = 1 → argument = 1 ∨ argument = 2) →
          ∃ (t : State) (bytes : List Byte), exec (.query seq selector argument part) s = .next t
            ∧ s.sameBlocks t ∧ t.cmd.nodes = s.cmd.nodes
            ∧ (19 * part.toNat ≥ bytes.length → t = s.replied seq k .badEntry [])
            ∧ (19 * part.toNat < bytes.length →
                t = s.replied seq k .ok
                  [.byte part.toNat, .byte ((bytes.length + 18) / 19), .raw ((bytes.drop (19 * part.toNat)).take 19)])
            ∧ (selector = 0 → bytes = encodeFields (s.arbitrate.withHeld (s.cmd.held ++ [s.heldAs seq k .issued])).statusFields)
            ∧ (selector = 1 → ∀ c, argument.toNat = cellNumber c → bytes = encodeFields (s.cell c).fields)
            ∧ (selector = 2 → bytes = encodeFields s.cells.input.fields)
            ∧ (selector = 3 → bytes = encodeFields s.hold.fields)
            ∧ (selector = 4 → bytes = encodeFields (s.balance.bleedFields ++ s.balance.shuttle.fields))
            ∧ (selector = 5 → bytes = encodeFields s.offersFields))

/-! ## Timers and transmitters -/

/-- The command unit's timers. At the wait limit the blocked head is answered BUSY with the reservation it waited on, after what
every reply to SWAP carries where it answers one, and the next command is examined (R42, R158, R159). At a node timeout the
forwarded command is answered NODE_TIMEOUT and the node is free, node 4 for the setpoint in the slot first (R119, R165). That
an expiry acts while its timer runs whatever it shows, that the elapsed time is 40 ms, and the order in a SWAP's BUSY are the
model's (log 3, log 12, log 19). -/
def Obligations.CommandTimersExpire : Prop :=
  ∀ s : State, s.rst = false → (s.cmd.held.map (·.place)).Nodup →
    (∀ c r, s.head = some c → c.wait.isSome → s.blockedOn c = some r →
        let reservation : Field :=
          .byte
            (match r with
             | .banks => 0
             | .shuttle => 1
             | .node .m1 => 2
             | .node .m2 => 3
             | .node .m3 => 4
             | .node .s4 => 5)
        let results : List Field :=
          if c.dest = 0 ∧ c.payload.head? = some 9 then
            [.bank s.seqr.designation, .step s.seqr.stored, reservation]
          else [reservation]
        let answered : State :=
          (s.withHeld (s.cmd.held.map fun d =>
              if d.place = c.place then { d with state := .replied, wait := none } else d)).withReply
            ⟨some c.place, .busy, c.seq, results⟩
        exec .waitLimitExpiry s = .next answered.settle
          ∧ ((∀ d ∈ s.cmd.held, d.state = .waiting → d = c) → answered.settle = answered.arbitrate)
          ∧ (∀ d, answered.head = some d → (s.blockedOn d).isSome →
              answered.settle
                = answered.arbitrate.withHeld (answered.cmd.held.map fun e =>
                    if e.place = d.place then { e with wait := some (e.wait.getD 0) } else e)))
      ∧ (∀ n place q ms, s.head = none → s.cmd.nodes.get n = .command place q ms →
        ∃ t, exec (.nodeTimeout n) s = .next t
          ∧ t.cmd.late = s.cmd.late
          ∧ t.cmd.held
              = s.cmd.held.map (fun c => if c.place = place then { c with state := .replied, wait := none } else c)
          ∧ (s.link.sendingU.isSome →
              t.out.replies
                = s.out.replies ++ [⟨some place, .nodeTimeout, q, [.byte (nodeNumber n), .long 40]⟩])
          ∧ ((n = .s4 → s.path.slot = none) →
              s.sameBlocks t ∧ t.cmd.nodes = s.cmd.nodes.set n .empty ∧ t.link.portD = s.link.portD)
          ∧ (∀ p, n = .s4 → s.path.slot = some p →
              t.cmd.nodes = s.cmd.nodes.set .s4 (.setpoint ⟨p, s.link.seqD⟩ 0)
                ∧ t.link.portD = s.link.portD ++ [setpointFrame p s.link.seqD]
                ∧ t.path = { s.path with slot := none, lastSetpoint := some ⟨p, s.link.seqD⟩ }
                ∧ t.gate = (decide (s.op = .run) && decide (p.mode = .charge) && decide (p.charge > 0))
                ∧ s.sameTables t ∧ t.op = s.op ∧ t.seqr = s.seqr ∧ t.guard = s.guard ∧ t.balance = s.balance
                ∧ t.hold = s.hold))

/-- The answer timeout of the outstanding setpoint: the silent count advances, stopping at 255; in RUN the slot is discarded,
STAGE_SILENT enters HELD and its zero setpoint takes the NODE4 that was freed (R107, R113, R144); in HELD the cause goes pending, or marks the repeat; in CONFIG nothing is handed; there the
slot's setpoint is sent (R117, R148). The mark of an overdue answer is the model's (log 29), and a shuttle's end
calls for no setpoint beside the zero one (log 44). -/
def Obligations.AnswerTimesOut : Prop :=
  ∀ (s : State) (p : SentSetpoint) (ms : Nat), s.quiet = true → s.cmd.nodes.get .s4 = .setpoint p ms →
    let cause : HoldCause := ⟨.stageSilent, .stage, .number p.seq, none, false⟩
    ∃ t, exec .answerTimeout s = .next t
      ∧ t.path.silent = min 255 (s.path.silent + 1) ∧ t.path.overdue = true ∧ s.sameTables t ∧ t.guard = s.guard
      ∧ t.cmd.late = s.cmd.late
      ∧ (s.op = .run → t.op = .held ∧ t.gate = false
          ∧ (∃ r, t.hold.record = some r ∧ r.cause = cause ∧ r.stored = s.seqr.stored ∧ r.causes = s.guard.causes
              ∧ r.reentry = false)
          ∧ t.path.handOver = none ∧ t.seqr.swap = none ∧ t.seqr.goto = none ∧ t.balance.shuttle.active = false
          ∧ State.calledFor { s with cmd.nodes := s.cmd.nodes.set .s4 .empty, path.slot := none } t
              (zeroSetpoint .held s.path.ship s.path.present))
      ∧ (s.op ≠ .run → t.op = s.op ∧ t.seqr = s.seqr ∧ t.balance = s.balance ∧ t.cmd.held = s.cmd.held
          ∧ (s.path.slot = none → t.cmd.nodes = s.cmd.nodes.set .s4 .empty ∧ t.link.portD = s.link.portD)
          ∧ (∀ q, s.path.slot = some q → t.path.slot = none
              ∧ t.cmd.nodes = s.cmd.nodes.set .s4 (.setpoint ⟨q, s.link.seqD⟩ 0)
              ∧ t.link.portD = s.link.portD ++ [setpointFrame q s.link.seqD]))
      ∧ (s.op = .config → t.hold = s.hold)
      ∧ (s.op = .held → s.hold.pendingHold = none → t.hold = { s.hold with pendingHold := some cause })
      ∧ (s.op = .held → s.hold.pendingHold.isSome →
          t.hold = { s.hold with record := s.hold.record.map fun h => { h with repeated := true } })

/-- Staleness and rest expiries: a record whose running timer runs out is STALE, and in CONFIG a cell's is only that, in RUN
and HELD it sets STALE where it is absent, in RUN with an override evaluation over the last round (R53, R80); an input record's
loses the presence, which calls for a setpoint; a rest timer's sets the rested mark (R6, R7, R11, R77, R105 to R107, R113). -/
def Obligations.CellTimersExpire : Prop :=
  ∀ s : State, s.quiet = true →
    (∀ c : CellId, (s.cell c).rest.isSome →
        exec (.restExpiry c) s
          = .next (State.arbitrate (s.setCell c { s.cell c with rest := none, rested := true })))
      ∧ (∀ c : CellId, (s.cell c).staleness.isSome →
        let s' := s.setCell c { s.cell c with monitor := .stale, staleness := none }
        ((s.op = .config ∨ s.guard.causes.stale = true) →
            exec (.stalenessExpiry (.cell c)) s = .next s'.arbitrate)
          ∧ (s.op ≠ .config → s.guard.causes.stale = false →
            ∃ t, exec (.stalenessExpiry (.cell c)) s = .next t ∧ s'.sameTables t
              ∧ t.guard
                  = { s.guard with causes := { s.guard.causes with stale := true },
                                   changes := (s.guard.changes + 1) % 256 }
              ∧ (s.op = .held → t.op = .held ∧ t.seqr = s.seqr ∧ t.path = s.path ∧ t.balance = s.balance
                  ∧ t.hold = s.hold)
              ∧ (s.op = .run → s.profiled = true → t.op = .run ∧ t.seqr.stored = s.seqr.stored
                  ∧ t.seqr.swap = s.seqr.swap ∧ t.seqr.goto = s.seqr.goto ∧ t.hold = s.hold ∧ s.overridden t)))
      ∧ (s.cells.input.staleness.isSome →
        ∃ t, exec (.stalenessExpiry .input) s = .next t
          ∧ t.cells = { s.cells with input := { s.cells.input with monitor := .stale, staleness := none } }
          ∧ t.path.present = false ∧ t.op = s.op ∧ t.seqr = s.seqr ∧ t.guard = s.guard ∧ t.balance = s.balance
          ∧ t.hold = s.hold ∧ t.cmd.held = s.cmd.held
          ∧ (s.path.present = true →
              let u : State :=
                { s with
                  cells := t.cells, path := { s.path with present := false, pendingOffer := none, acceptedOffer := none } }
              t.path.pendingOffer = none ∧ t.path.acceptedOffer = none ∧ t.path.ship = s.path.ship
                ∧ t.path.handOver = s.path.handOver ∧ (s.op = .run → s.computedFor t u.compute)
                ∧ (s.op ≠ .run →
                    t.path.computation = s.path.computation ∧ s.calledFor t (zeroSetpoint s.op s.path.ship false)))
          ∧ (s.path.present = false → t.path = s.path ∧ t.gate = s.gate ∧ t.cmd.nodes = s.cmd.nodes))

/-- The dwell expiry: D becomes 1 and the timer expired, and nothing else of the sequencer moves; an UNTIL_D step hands itself
to the path unit, which in RUN computes and sends a setpoint (R113), and with another gate no setpoint is called for (R58). -/
def Obligations.DwellExpires : Prop :=
  ∀ (s : State) (ms : Nat) (a : StepAddr) (e : StepEntry), s.quiet = true → s.seqr.dwell = .running ms →
    s.seqr.stored = some a → s.entryAt a = some e →
    ∃ t, exec .dwellExpiry s = .next t
      ∧ t.seqr = { s.seqr with d := true, dwell := .expired } ∧ s.sameTables t ∧ t.op = s.op ∧ t.guard = s.guard
      ∧ t.balance = s.balance ∧ t.hold = s.hold ∧ t.cmd.held = s.cmd.held
      ∧ (e.gate ≠ .untilD → t.path = s.path ∧ t.gate = s.gate ∧ t.cmd.nodes = s.cmd.nodes)
      ∧ (e.gate = .untilD →
          t.path.handOver
            = some
                { summary := s.cells.lastRound, addr := a, limit := e.limit, ceiling := e.ceiling, band := e.band
                  path := e.path, gate := e.gate, column := if a.row.val = 11 then some a.col else none, t := s.seqr.t,
                  d := true }
            ∧ (s.op = .run → s.computedFor t (State.compute { s with path.handOver := t.path.handOver })))

/-- The shuttle's ends outside a hand-over. At its time limit an ACTIVE shuttle ends TIMEOUT, and at the SAMPLE of its source
cell that brings the remaining charge to 0 or below it ends DONE: the cooldown is loaded, a BALANCE alert queued and, in RUN, a
setpoint called for with the shuttle off. Another SAMPLE of the source cell counts, one of the other cell does not. A cooldown
that runs out is expired (R113, R130, R132, R133, R134, R139). -/
def Obligations.ShuttleTimersExpire : Prop :=
  let ended (s : State) (why : EndReason) (transferred : Nat) (remaining : Int) (elapsed : Nat) : Shuttle :=
    { s.balance.shuttle with
      active := false, endReason := why, lastTransferred := transferred, transferred := transferred
      remaining := remaining, elapsed := elapsed
      cooldown := if s.balance.cooldownMs = 0 then none else some s.balance.cooldownMs }
  let off (s t : State) : Prop :=
    let p : Setpoint := ⟨s.compute.mode, s.compute.iSet, .off, 0, .run⟩
    t.path.computation = some s.compute
      ∧ (s.cmd.nodes.get .s4 = .empty →
          t.path.lastSetpoint = some ⟨p, s.link.seqD⟩
            ∧ t.cmd.nodes = s.cmd.nodes.set .s4 (.setpoint ⟨p, s.link.seqD⟩ 0)
            ∧ t.link.portD = s.link.portD ++ [setpointFrame p s.link.seqD]
            ∧ t.gate = (decide (p.mode = .charge) && decide (p.charge > 0)))
      ∧ (s.cmd.nodes.get .s4 ≠ .empty →
          t.path.slot = some p ∧ t.path.lastSetpoint = s.path.lastSetpoint ∧ t.cmd.nodes = s.cmd.nodes
            ∧ t.link.portD = s.link.portD ∧ t.gate = s.gate)
  let alert (s : State) (why transferred elapsed : Nat) : Alert :=
    ⟨.balance,
      [.byte why, .byte 0, .byte s.balance.shuttle.origin.code,
       .byte (match s.balance.shuttle.source with | some c => cellNumber c | none => 0),
       .charge s.balance.shuttle.amount, .charge transferred, .long elapsed, .word (s.cell .one).soc,
       .word (s.cell .two).soc, .step s.seqr.stored, .byte s.op.code]⟩
  (∀ (s : State) (c : CellId) (interval : Nat) (balance : Int),
      let x := s.balance.shuttle
      let transferred := x.transferred + balance.natAbs * interval
      let remaining : Int := x.remaining - (balance.natAbs * interval : Nat)
      let t := s.countShuttle c interval balance
      ((x.active = false ∨ x.source ≠ some c) → t = s)
        ∧ (x.active = true → x.source = some c → remaining > 0 →
            t = { s with balance.shuttle := { x with transferred := transferred, remaining := remaining } })
        ∧ (x.active = true → x.source = some c → remaining ≤ 0 →
            t.balance = { s.balance with shuttle := ended s .done transferred remaining x.elapsed }
              ∧ alert s 1 transferred x.elapsed ∈ t.out.alerts ∧ s.sameTables t ∧ t.op = s.op ∧ t.seqr = s.seqr
              ∧ t.guard = s.guard ∧ t.hold = s.hold ∧ t.cmd.held = s.cmd.held ∧ t.path.handOver = s.path.handOver
              ∧ (s.op = .run → off s t) ∧ (s.op ≠ .run → t.path = s.path ∧ t.gate = s.gate ∧ t.link = s.link)))
  ∧ ∀ s : State, s.quiet = true →
    exec .cooldownExpiry s = .next (State.arbitrate { s with balance.shuttle.cooldown := none })
      ∧ (s.balance.shuttle.active = true →
        ∃ t, exec .timeLimitExpiry s = .next t
          ∧ t.balance
              = { s.balance with
                  shuttle :=
                    ended s .timeout s.balance.shuttle.transferred s.balance.shuttle.remaining s.balance.shuttle.length }
          ∧ s.sameTables t ∧ t.op = s.op ∧ t.seqr = s.seqr ∧ t.guard = s.guard ∧ t.hold = s.hold
          ∧ t.cmd.held = s.cmd.held ∧ t.path.handOver = s.path.handOver
          ∧ (s.link.sendingU.isSome →
              alert s 2 s.balance.shuttle.transferred s.balance.shuttle.length ∈ t.out.alerts)
          ∧ (s.op = .run → off s t)
          ∧ (s.op ≠ .run → t.path = s.path ∧ t.gate = s.gate))
      ∧ (s.balance.shuttle.active = false → exec .timeLimitExpiry s = .next s.arbitrate)

/-- The transmitters. With port U idle the arbiter takes the first alert, else the first reply, else the first forwarded frame:
an alert or a hub reply takes port U's sequence number, which advances, and a hub reply carries the overrun flag, which is
cleared; a forwarded frame goes as it stands (R157, R173, R180). The command that the frame sent on port U answers leaves the
queue, and the arbiter takes the next frame; on port D the frames leave in the order they were handed over (R155, R170). -/
def Obligations.FramesSent : Prop :=
  (∀ s : State, s.link.sendingU.isSome → s.arbitrate = s)
  ∧ (∀ s : State, s.link.sendingU = none → s.out = ⟨[], [], []⟩ → s.arbitrate = s)
  ∧ (∀ (s : State) (a : Alert) (rest : List Alert), s.link.sendingU = none → s.out.alerts = a :: rest →
      s.arbitrate
        = { s with
            out.alerts := rest
            link.seqU := s.link.seqU + 1
            link.sendingU :=
              some ⟨⟨15, 0, 8, s.link.seqU, BitVec.ofNat 8 a.kind.code :: encodeFields a.fields⟩, none⟩ })
  ∧ (∀ (s : State) (r : Reply) (rest : List Reply), s.link.sendingU = none → s.out.alerts = [] →
      s.out.replies = r :: rest →
      s.arbitrate
        = { s with
            out.replies := rest
            cmd.overrun := false
            link.seqU := s.link.seqU + 1
            link.sendingU :=
              some
                ⟨⟨15, 0, 7, s.link.seqU,
                  BitVec.ofNat 8 r.status.code :: (if s.cmd.overrun then 1 else 0) :: r.echo :: encodeFields r.results⟩,
                 r.answers⟩ })
  ∧ (∀ (s : State) (u : UpFrame) (rest : List UpFrame), s.link.sendingU = none → s.out.alerts = [] →
      s.out.replies = [] → s.out.forward = u :: rest →
      s.arbitrate = { s with out.forward := rest, link.sendingU := some u })
  ∧ ∀ s : State, s.quiet = true →
    (∀ u, s.link.sendingU = some u →
        exec .portUFrameSent s
          = .next
              (State.arbitrate
                { s with
                  link.sendingU := none
                  cmd.held :=
                    match u.answers with
                    | some place => s.cmd.held.filter fun c => c.place ≠ place
                    | none => s.cmd.held }))
      ∧ (∃ t, exec .portDFrameSent s = .next t ∧ t.link.sendingD.toList ++ t.link.queueD = s.link.queueD
          ∧ t.link.seqD = s.link.seqD ∧ s.sameBlocks t ∧ t.cmd.held = s.cmd.held ∧ t.cmd.nodes = s.cmd.nodes)

/-! ## Invariants of every step -/

/-- Every step leaves nothing standing that could go on: no frame waits while port U is idle, and the head of the command queue
waits only for a reservation that is held, with its wait timer running (R158, R159, R180). The distinct places are the
model's own (log 15). -/
def Obligations.StepKeepsSettled : Prop :=
  ∀ s t : State, s.settled → step s = .next t → t.settled

/-- Every step keeps GATE low outside RUN and without a CHARGE setpoint sent, and the slot's setpoint one of the state in force
(R108, R115). -/
def Obligations.StepKeepsGate : Prop :=
  ∀ s t : State, s.gateLaw ∧ s.slotLaw → step s = .next t → t.gateLaw ∧ t.slotLaw

/-- Every step keeps the shuttle and the bleeds apart, and both off outside RUN (R128, R138). -/
def Obligations.StepKeepsBalance : Prop :=
  ∀ s t : State, s.balanceLaw → step s = .next t → t.balanceLaw

/-- Every step keeps what belongs to a profile within it: a pending hold in HELD alone, an empty cause set in CONFIG, swaps and
gotos in RUN alone; and in RUN and HELD the designated bank is complete and the stored step is one of its filled profile
entries (R30, R32, R64, R74, R142). -/
def Obligations.StepKeepsProfile : Prop :=
  ∀ s t : State, s.profileLaw → step s = .next t → t.profileLaw

/-- Every step keeps the command queue at four commands, the alert queue at one alert of each kind, the reply queue at five
replies and the forward queue at eight frames, with what bounds them: each frame that answers a command answers another one,
which has been replied to, and each node entry and the pending swap stand for a command of their own (R155, R156, R162, R163,
R178, R179). The places in it are the model's own (log 15). -/
def Obligations.StepKeepsQueues : Prop :=
  ∀ s t : State, s.queueLaw → step s = .next t → t.queueLaw

/-- The state power-on leaves meets the six invariants above. The places in `settled` and `queueLaw` are the model's own (log 15). -/
def Obligations.ResetMeetsLaws : Prop :=
  State.reset.settled ∧ State.reset.gateLaw ∧ State.reset.slotLaw ∧ State.reset.balanceLaw ∧ State.reset.profileLaw
    ∧ State.reset.queueLaw

/-! ## Frames on the wires -/

/-- A command to the hub, written by the layouts of R183 into a COMMAND frame of R181, is what the hub reads from the frame's
bytes: the receiver finds the same COMMAND, and its payload names the same command. -/
def Obligations.CommandsReadBack : Prop :=
  ∀ (k : HubCommand) (src : Address) (seq : Byte), k ≠ .badArguments → k ≠ .unknown → k ≠ .resume 3 →
    parseCommand (encodeCommand k) = k
      ∧ ((encodeCommand k).length ≤ 24 →
          classifyU ⟨Frame.bytes ⟨0, src, 6, seq, encodeCommand k⟩, false⟩ = .command 0 src seq (encodeCommand k))

/-- The frames of the nodes, written by R181, are what the hub reads from their bytes, with every field; a framing error or a
wrong check makes a frame bad (R171, R174). -/
def Obligations.NodeFramesReadBack : Prop :=
  (∀ (c : CellId) (f : SampleFrame) (fold : Bool),
      classifyD ⟨Frame.bytes (sampleToFrame c f), false⟩ fold = .sample c f fold)
    ∧ (∀ (f : InputFrame) (fold : Bool), classifyD ⟨Frame.bytes (inputToFrame f), false⟩ fold = .input f)
    ∧ (∀ (f : StageFrame) (fold : Bool), classifyD ⟨Frame.bytes (stageToFrame f), false⟩ fold = .stage f)
    ∧ (∀ (n : NodeId) (dest : Address) (seq : Byte) (payload : List Byte) (fold : Bool), payload.length ≤ 24 →
        classifyD ⟨Frame.bytes ⟨dest, nodeAddress n, 7, seq, payload⟩, false⟩ fold = .nodeReply n dest seq payload)
    ∧ (∀ (b : List Byte) (fold : Bool), classifyD ⟨b, true⟩ fold = .portDBadFrame)
    ∧ (∀ (f : Frame) (x : Byte) (fold : Bool), x ≠ crc f.body →
        classifyD ⟨f.body ++ [x], false⟩ fold = .portDBadFrame)

/-! ## The arithmetic of a charge current -/

/-- The computation of a hand-over: the charge current is the least of the thermal, taper and input terms, HINGE_IMAX and
HARD_ICHG, rounded down to a multiple of 25 mA, at most one slew step above the last sent and 0 with the gate open; without a
summary it is 0 (R89, R91 to R98). The mode is BATTERY with input absent, SUPPLEMENT where the system takes all the budget,
CHARGE above 0, and otherwise ADAPTER (R99). From figures of 0 or more it is 0 or more, and within HARD_ICHG, HINGE_IMAX and
one SLEW of the last sent. That an empty hand-over record shows no step is the model's choice (log 41). -/
def Obligations.ComputationBounded : Prop :=
  ∀ s : State,
    let k := s.compute
    let i := k.iSet
    let supply : Option (Int × Int) :=
      if s.path.present then
        match s.path.acceptedOffer with
        | some o => some (o.voltage, o.current)
        | none => some (5000, 500)
      else none
    let charging : Option Int :=
      supply.map fun x =>
        x.1 * x.2 / 1000 * s.guard.eff / 100 - s.cells.input.vsys * max s.cells.input.isys 0 / 1000
    let supplement : Prop := ∃ p, charging = some p ∧ p ≤ 0
    let ref : Int := match s.path.lastSetpoint with | some p => p.setpoint.charge | none => 0
    (s.path.present = false → k.mode = .battery)
      ∧ (s.path.present = true → supplement → k.mode = .supplement)
      ∧ (s.path.present = true → ¬ supplement → i > 0 → k.mode = .charge)
      ∧ (s.path.present = true → ¬ supplement → i ≤ 0 → k.mode = .adapter)
      ∧ (k.mode = .charge ↔ i > 0) ∧ (k.supplement = true ↔ supplement)
      ∧ (s.path.handOver = none → i = 0 ∧ k.noRound = true ∧ k.figures = none ∧ k.addr = none)
      ∧ (∀ h, s.path.handOver = some h → h.summary = none →
          i = 0 ∧ k.noRound = true ∧ k.figures = none ∧ k.addr = some h.addr)
      ∧ ∀ h r, s.path.handOver = some h → h.summary = some r →
        let factor : Int := interpolate s.path.derate.points.toList (max r.t1 r.t2)
        let therm : Int := h.limit * factor / 100
        let vHi : Int := max r.v1 r.v2
        let taper : Int :=
          if vHi ≤ h.ceiling - h.band then h.limit
          else if vHi ≥ h.ceiling then 0
          else h.limit * (h.ceiling - vHi) / h.band
        let input : Int :=
          match charging with
          | some p => if p ≤ 0 then 0 else p * 1000 / max (r.v1 + r.v2) 5000
          | none => 0
        let least : Int := min therm (min taper (min input (min s.guard.hingeImax s.guard.hardIchg)))
        let raw : Int := least / 25 * 25
        let slewed : Int := if raw ≤ ref then raw else min raw (ref + s.guard.slew / 25 * 25)
        let gateOpens : Prop :=
          h.path = .adapter ∨ h.gate = .opened ∨ (h.gate = .untilT ∧ h.t = true) ∨ (h.gate = .untilD ∧ h.d = true)
        (gateOpens → i = 0) ∧ (¬ gateOpens → i = slewed)
          ∧ (∃ f, k.figures = some f ∧ f.factor = factor ∧ f.therm = therm ∧ f.taper = taper ∧ f.input = input
              ∧ f.raw = raw)
          ∧ (k.slewLimited = true ↔ slewed < raw) ∧ (k.gated = true ↔ gateOpens ∧ slewed > 0)
          ∧ k.noRound = false ∧ k.addr = some h.addr ∧ k.column = h.column
          ∧ (0 ≤ therm → 0 ≤ taper → 0 ≤ s.guard.hingeImax → 0 ≤ s.guard.hardIchg → 0 ≤ ref → 0 ≤ s.guard.slew →
              0 ≤ i ∧ i ≤ s.guard.hardIchg ∧ i ≤ s.guard.hingeImax ∧ i ≤ ref + s.guard.slew)
          ∧ ((25 : Int) ∣ ref → (25 : Int) ∣ i)

/-- A table of points whose x rises strictly, read between two points, gives the floored line between them, a point's own y at
the point, and the end points' y outside (R10, R91). The thermal stage reads the derate table so at the hotter temperature: the
factor is one of 0 to 100 where every point's is, and I_therm, the step's limit times the factor over 100, floored, lies between
0 and the limit (R91). -/
def Obligations.InterpolationReads : Prop :=
  (∀ (l : List Point) (x : Int), risesStrictly l = true →
    (∀ p rest, l = p :: rest → x ≤ p.x → interpolate l x = p.y)
      ∧ (∀ front p, l = front ++ [p] → x ≥ p.x → interpolate l x = p.y)
      ∧ (∀ front p q rest, l = front ++ p :: q :: rest → p.x < x → x ≤ q.x →
          interpolate l x = p.y + (q.y - p.y) * (x - p.x) / (q.x - p.x)))
    ∧ ∀ (s : State) (h : HandOver) (r : Summary), risesStrictly s.path.derate.points.toList = true →
      ∃ f, (s.fullComputation h r).figures = some f
        ∧ f.factor = interpolate s.path.derate.points.toList (max r.t1 r.t2) ∧ f.therm = h.limit * f.factor / 100
        ∧ ((∀ p ∈ s.path.derate.points.toList, 0 ≤ p.y ∧ p.y ≤ 100) →
            0 ≤ f.factor ∧ f.factor ≤ 100 ∧ (0 ≤ h.limit → 0 ≤ f.therm ∧ f.therm ≤ h.limit))

/-- The scaled charge: the least exponent that brings the content under 65536, the mantissa rounded to the nearest, halves
upward, and 65536 written as 32768 with the next exponent (R13). -/
def Obligations.ScaledChargeRounds : Prop :=
  ∀ q : Nat,
    (q < 65536 → scaled q = (q, 0))
      ∧ (∀ e, 0 < e → q < 65536 * 2 ^ e → 65536 * 2 ^ (e - 1) ≤ q →
          let m := (q + 2 ^ (e - 1)) / 2 ^ e
          (m < 65536 → scaled q = (m, e)) ∧ (m = 65536 → scaled q = (32768, e + 1)) ∧ 32768 ≤ m ∧ m ≤ 65536)

/-! ## Rules of the sequencer and the queues -/

/-- Stage 2 of a round evaluation: each round-detected cause set, cleared or kept by its hysteresis, then each event-detected
cause cleared whose condition has gone, as one change counted once (R74, R75, R76); in RUN the dwell timer is paused by a set
that is not empty and runs again with an empty one, and nothing else of the sequencer moves (R47, R57). -/
def Obligations.StageTwoUpdatesCauses : Prop :=
  ∀ (s : State) (r : Summary),
    let g := s.guard
    let c := (s.stageCauses r).guard.causes
    (c.cellHigh = true ↔ r.hi ≥ g.softOv ∨ (g.causes.cellHigh = true ∧ r.hi ≥ g.softOv - 20))
      ∧ (c.cellLow = true ↔ r.lo < g.softUv ∨ (g.causes.cellLow = true ∧ r.lo < g.softUv + 20))
      ∧ (c.warm = true ↔ r.hot ≥ g.chgTmax ∨ (g.causes.warm = true ∧ r.hot ≥ g.chgTmax - 20))
      ∧ (c.cold = true ↔ r.cold < g.chgTmin ∨ (g.causes.cold = true ∧ r.cold < g.chgTmin + 20))
      ∧ (c.imbalance = true ↔
          |r.v1 - r.v2| ≥ g.imbalV ∨ (g.causes.imbalance = true ∧ |r.v1 - r.v2| ≥ g.imbalV - 20))
      ∧ (c.stale = true ↔
          g.causes.stale = true ∧ ¬ ((s.cell .one).monitor = .fresh ∧ (s.cell .two).monitor = .fresh))
      ∧ (c.link = true ↔ g.causes.link = true ∧ g.linkMark = true)
      ∧ (c.hostSet = true ↔ g.causes.hostSet = true ∧ g.hostReq = true)
      ∧ (s.stageCauses r).guard.changes = (if c = g.causes then g.changes else (g.changes + 1) % 256)
      ∧ (s.stageCauses r).seqr
          = { s.seqr with
              dwell :=
                let timer (ms : Nat) : DwellTimer := if s.op = .run ∧ c = Causes.none then .running ms else .paused ms
                match s.seqr.dwell with
                | .running ms => timer ms
                | .paused ms => timer ms
                | w => w }
      ∧ s.sameTables (s.stageCauses r) ∧ (s.stageCauses r).op = s.op

/-- Stage 3 with no GOTO pending: with a cause in the set the stored step is left alone (R49); otherwise its test is computed
(R54, R55), T follows by its flag rule (R56), the first-evaluation mark is cleared, and its next rule moves or not (R48, R59 to
R62). T is cleared by a fresh entry (R45). -/
def Obligations.FlagRulesUpdateT : Prop :=
  (∀ t first test : Bool,
      updateT .track t first test = test ∧ updateT .sticky t first test = (t || test) ∧ updateT .hold t first test = t
        ∧ updateT .entry t first test = (if first then test else t))
    ∧ (∀ (s : State) (a : StepAddr),
        (s.enterFresh a).seqr.t = false ∧ (s.enterFresh a).seqr.d = false ∧ (s.enterFresh a).seqr.stored = some a
          ∧ (s.enterFresh a).seqr.firstEval = true ∧ (s.enterFresh a).seqr.lastTest = none)
    ∧ (∀ (s : State) (r : Summary), s.seqr.goto = none → s.guard.causes ≠ Causes.none → s.stageStep r = .ok s none)
    ∧ ∀ (s : State) (r : Summary) (a : StepAddr) (e : StepEntry), s.seqr.goto = none → s.guard.causes = Causes.none →
        s.seqr.stored = some a → s.entryAt a = some e →
        let test : Bool :=
          match e.selector with
          | .none => false
          | .vhiGe => decide (max r.v1 r.v2 ≥ e.threshold)
          | .vloGe => decide (min r.v1 r.v2 ≥ e.threshold)
          | .vloLt => decide (min r.v1 r.v2 < e.threshold)
          | .ipackLe => decide (r.pack ≤ e.threshold)
          | .tmaxGe => decide (max r.t1 r.t2 ≥ e.threshold)
          | .tmaxLt => decide (max r.t1 r.t2 < e.threshold)
          | .dsocGe => decide (|(r.soc1 : Int) - r.soc2| ≥ e.threshold)
          | .socloGe => decide ((min r.soc1 r.soc2 : Int) ≥ e.threshold)
          | .offerPending => s.path.pendingOffer.isSome
          | .folded => r.fold
          | .inputPresent => r.present
          | .limited =>
            decide ((match s.path.lastSetpoint with | some p => p.setpoint.charge | none => 0) < e.limit)
        let t := updateT e.flagRule s.seqr.t s.seqr.firstEval test
        let worked : State := { s with seqr.lastTest := some test, seqr.t := t, seqr.firstEval := false }
        let promoted : State :=
          { worked with path.acceptedOffer := s.path.pendingOffer, path.pendingOffer := none }
        let entered (code : Nat) : Option Entered := some ⟨some a, code, some test⟩
        let moves (from' : State) (code : Nat) (target : StepAddr) : Prop :=
          (target = a → s.stageStep r = .ok from' none)
            ∧ (target ≠ a → s.entryAt target = none → s.stageStep r = .blocked worked target)
            ∧ (target ≠ a → (s.entryAt target).isSome → s.stageStep r = .ok (from'.enterFresh target) (entered code))
        let stays : Prop := s.stageStep r = .ok worked none
        (e.next = .stay → stays)
          ∧ (e.next = .advance → if t then moves worked 1 ⟨a.bank, a.row, a.col + 1⟩ else stays)
          ∧ (∀ x, e.next = .onT x → if t then moves worked 2 ⟨a.bank, a.row, x⟩ else stays)
          ∧ (∀ x y, e.next = .split x y → moves worked 3 ⟨a.bank, a.row, if t then x else y⟩)
          ∧ (∀ q x, e.next = .onD q x → if s.seqr.d then moves worked 4 ⟨a.bank, profileRow q, x⟩ else stays)
          ∧ (∀ q, e.next = .onTRow q → if t then moves worked 5 ⟨a.bank, profileRow q, 0⟩ else stays)
          ∧ (∀ x, e.next = .byOffer x →
              (s.path.pendingOffer = none → stays)
              ∧ ∀ o (col : Fin 8), s.path.pendingOffer = some o → col.val = x.val + o.cls.val →
                  moves promoted 6 ⟨a.bank, a.row, col⟩)
          ∧ (e.next = .home → moves worked 7 ⟨a.bank, 0, 0⟩)
          ∧ (∀ q x, e.next = .switch q x →
              let target : StepAddr := ⟨match a.bank with | .a => .b | .b => .a, profileRow q, x⟩
              if t then
                if (∀ k : Fin 8, (bankEntry (s.seqr.bank target.bank) 11 k).isSome) ∧ (s.entryAt target).isSome then
                  s.stageStep r
                    = .ok (State.enterFresh { worked with seqr.designation := some target.bank } target) (entered 8)
                else s.stageStep r = .blocked worked target
              else stays)

/-- A full forward queue that holds a frame other than a node REPLY stays at eight, keeps every node REPLY in its order and
loses the oldest SAMPLE or INPUT where it holds one; the alert queue replaces an alert of a kind in place (R178, R179). -/
def Obligations.QueuesMakeRoom : Prop :=
  (∀ (s : State) (u : UpFrame), s.out.forward.length = 8 → (∃ x ∈ s.out.forward, x.nodeReply = false) →
      (s.placeForward u).out.forward.length = 8
        ∧ (s.placeForward u).out.forward.filter UpFrame.nodeReply
            = s.out.forward.filter UpFrame.nodeReply ++ [u].filter UpFrame.nodeReply
        ∧ (∀ front x rest, s.out.forward = front ++ x :: rest → x.measured = true →
            (∀ y ∈ front, y.measured = false) → (s.placeForward u).out.forward = front ++ rest ++ [u]))
    ∧ (∀ (q : List Alert) (a : Alert),
        (putAlert a q).map (·.kind) = (if a.kind ∈ q.map (·.kind) then q.map (·.kind) else q.map (·.kind) ++ [a.kind])
          ∧ ((q.map (·.kind)).Nodup → a ∈ putAlert a q ∧ ∀ b ∈ putAlert a q, b = a ∨ (b ∈ q ∧ b.kind ≠ a.kind)))

end
end

