-- ==== Sys2Proof/Laws/State.lean ====
section
/-! SUPPORT. What each operation of the hub leaves unchanged, field by field, for `simp`: no later proof unfolds a record
update to see that a block stood still. -/

namespace Sys2Proof.Machine

/-- What `State.withHeld` leaves as it was. -/
@[simp] theorem State.withHeld_frame (s : State) (l : List HeldCommand) :
    (s.withHeld l).pending = s.pending ∧ (s.withHeld l).rst = s.rst ∧ (s.withHeld l).fold = s.fold
    ∧ (s.withHeld l).gate = s.gate ∧ (s.withHeld l).op = s.op ∧ (s.withHeld l).routes = s.routes
    ∧ (s.withHeld l).link = s.link ∧ (s.withHeld l).out = s.out ∧ (s.withHeld l).cells = s.cells
    ∧ (s.withHeld l).seqr = s.seqr ∧ (s.withHeld l).guard = s.guard ∧ (s.withHeld l).path = s.path
    ∧ (s.withHeld l).balance = s.balance ∧ (s.withHeld l).hold = s.hold ∧ (s.withHeld l).cmd.nodes = s.cmd.nodes
    ∧ (s.withHeld l).cmd.late = s.cmd.late ∧ (s.withHeld l).cmd.overrun = s.cmd.overrun
    ∧ (s.withHeld l).cmd.discards = s.cmd.discards ∧ (s.withHeld l).cmd.held = l := by
  and_intros <;> rfl

/-- What `State.setCell` leaves as it was. -/
@[simp] theorem State.setCell_frame (s : State) (c : CellId) (r : CellRecord) :
    (s.setCell c r).pending = s.pending ∧ (s.setCell c r).rst = s.rst ∧ (s.setCell c r).fold = s.fold
    ∧ (s.setCell c r).gate = s.gate ∧ (s.setCell c r).op = s.op ∧ (s.setCell c r).routes = s.routes
    ∧ (s.setCell c r).link = s.link ∧ (s.setCell c r).out = s.out ∧ (s.setCell c r).cmd = s.cmd
    ∧ (s.setCell c r).seqr = s.seqr ∧ (s.setCell c r).guard = s.guard ∧ (s.setCell c r).path = s.path
    ∧ (s.setCell c r).balance = s.balance ∧ (s.setCell c r).hold = s.hold
    ∧ (s.setCell c r).cells.input = s.cells.input ∧ (s.setCell c r).cells.table = s.cells.table
    ∧ (s.setCell c r).cells.ocv = s.cells.ocv ∧ (s.setCell c r).cells.lastRound = s.cells.lastRound := by
  and_intros <;> rfl

/-- What `State.updateHeld` leaves as it was. -/
@[simp] theorem State.updateHeld_frame (s : State) (p : Nat) (f : HeldCommand → HeldCommand) :
    (s.updateHeld p f).pending = s.pending ∧ (s.updateHeld p f).rst = s.rst ∧ (s.updateHeld p f).fold = s.fold
    ∧ (s.updateHeld p f).gate = s.gate ∧ (s.updateHeld p f).op = s.op ∧ (s.updateHeld p f).routes = s.routes
    ∧ (s.updateHeld p f).link = s.link ∧ (s.updateHeld p f).out = s.out ∧ (s.updateHeld p f).cells = s.cells
    ∧ (s.updateHeld p f).seqr = s.seqr ∧ (s.updateHeld p f).guard = s.guard ∧ (s.updateHeld p f).path = s.path
    ∧ (s.updateHeld p f).balance = s.balance ∧ (s.updateHeld p f).hold = s.hold
    ∧ (s.updateHeld p f).cmd.nodes = s.cmd.nodes ∧ (s.updateHeld p f).cmd.late = s.cmd.late
    ∧ (s.updateHeld p f).cmd.overrun = s.cmd.overrun ∧ (s.updateHeld p f).cmd.discards = s.cmd.discards := by
  and_intros <;> rfl

/-- What `State.handD` leaves as it was. -/
@[simp] theorem State.handD_frame (s : State) (f : Frame) :
    (s.handD f).pending = s.pending ∧ (s.handD f).rst = s.rst ∧ (s.handD f).fold = s.fold ∧ (s.handD f).gate = s.gate
    ∧ (s.handD f).op = s.op ∧ (s.handD f).routes = s.routes ∧ (s.handD f).out = s.out ∧ (s.handD f).cmd = s.cmd
    ∧ (s.handD f).cells = s.cells ∧ (s.handD f).seqr = s.seqr ∧ (s.handD f).guard = s.guard
    ∧ (s.handD f).path = s.path ∧ (s.handD f).balance = s.balance ∧ (s.handD f).hold = s.hold
    ∧ (s.handD f).link.badCount = s.link.badCount ∧ (s.handD f).link.seqU = s.link.seqU
    ∧ (s.handD f).link.sendingU = s.link.sendingU ∧ (s.handD f).link.seqD = s.link.seqD := by
  and_intros <;> (unfold State.handD; (repeat' split) <;> simp)

/-- What `State.composeD` leaves as it was. -/
@[simp] theorem State.composeD_frame (s : State) (f : Byte → Frame) :
    (s.composeD f).pending = s.pending ∧ (s.composeD f).rst = s.rst ∧ (s.composeD f).fold = s.fold
    ∧ (s.composeD f).gate = s.gate ∧ (s.composeD f).op = s.op ∧ (s.composeD f).routes = s.routes
    ∧ (s.composeD f).out = s.out ∧ (s.composeD f).cmd = s.cmd ∧ (s.composeD f).cells = s.cells
    ∧ (s.composeD f).seqr = s.seqr ∧ (s.composeD f).guard = s.guard ∧ (s.composeD f).path = s.path
    ∧ (s.composeD f).balance = s.balance ∧ (s.composeD f).hold = s.hold
    ∧ (s.composeD f).link.badCount = s.link.badCount ∧ (s.composeD f).link.seqU = s.link.seqU
    ∧ (s.composeD f).link.sendingU = s.link.sendingU := by
  and_intros <;> (unfold State.composeD; simp)

/-- What `State.alert` leaves as it was. -/
@[simp] theorem State.alert_frame (s : State) (k : AlertKind) (fs : List Field) :
    (s.alert k fs).pending = s.pending ∧ (s.alert k fs).rst = s.rst ∧ (s.alert k fs).fold = s.fold
    ∧ (s.alert k fs).gate = s.gate ∧ (s.alert k fs).op = s.op ∧ (s.alert k fs).routes = s.routes
    ∧ (s.alert k fs).link = s.link ∧ (s.alert k fs).cmd = s.cmd ∧ (s.alert k fs).cells = s.cells
    ∧ (s.alert k fs).seqr = s.seqr ∧ (s.alert k fs).guard = s.guard ∧ (s.alert k fs).path = s.path
    ∧ (s.alert k fs).balance = s.balance ∧ (s.alert k fs).hold = s.hold ∧ (s.alert k fs).out.replies = s.out.replies
    ∧ (s.alert k fs).out.forward = s.out.forward := by
  and_intros <;> rfl

/-- What `State.placeForward` leaves as it was. -/
@[simp] theorem State.placeForward_frame (s : State) (u : UpFrame) :
    (s.placeForward u).pending = s.pending ∧ (s.placeForward u).rst = s.rst ∧ (s.placeForward u).fold = s.fold
    ∧ (s.placeForward u).gate = s.gate ∧ (s.placeForward u).op = s.op ∧ (s.placeForward u).routes = s.routes
    ∧ (s.placeForward u).link = s.link ∧ (s.placeForward u).cmd = s.cmd ∧ (s.placeForward u).cells = s.cells
    ∧ (s.placeForward u).seqr = s.seqr ∧ (s.placeForward u).guard = s.guard ∧ (s.placeForward u).path = s.path
    ∧ (s.placeForward u).balance = s.balance ∧ (s.placeForward u).hold = s.hold
    ∧ (s.placeForward u).out.alerts = s.out.alerts ∧ (s.placeForward u).out.replies = s.out.replies := by
  and_intros <;> rfl

/-- What `State.answerAt` leaves as it was. -/
@[simp] theorem State.answerAt_frame (s : State) (p : Nat) (e : Byte) (st : Status) (rs : List Field) :
    (s.answerAt p e st rs).pending = s.pending ∧ (s.answerAt p e st rs).rst = s.rst
    ∧ (s.answerAt p e st rs).fold = s.fold ∧ (s.answerAt p e st rs).gate = s.gate ∧ (s.answerAt p e st rs).op = s.op
    ∧ (s.answerAt p e st rs).routes = s.routes ∧ (s.answerAt p e st rs).link = s.link
    ∧ (s.answerAt p e st rs).cells = s.cells ∧ (s.answerAt p e st rs).seqr = s.seqr
    ∧ (s.answerAt p e st rs).guard = s.guard ∧ (s.answerAt p e st rs).path = s.path
    ∧ (s.answerAt p e st rs).balance = s.balance ∧ (s.answerAt p e st rs).hold = s.hold
    ∧ (s.answerAt p e st rs).out.alerts = s.out.alerts ∧ (s.answerAt p e st rs).out.forward = s.out.forward
    ∧ (s.answerAt p e st rs).cmd.nodes = s.cmd.nodes ∧ (s.answerAt p e st rs).cmd.late = s.cmd.late
    ∧ (s.answerAt p e st rs).cmd.overrun = s.cmd.overrun ∧ (s.answerAt p e st rs).cmd.discards = s.cmd.discards := by
  and_intros <;> rfl

/-- What `State.answer` leaves as it was. -/
@[simp] theorem State.answer_frame (s : State) (c : HeldCommand) (st : Status) (rs : List Field) :
    (s.answer c st rs).pending = s.pending ∧ (s.answer c st rs).rst = s.rst ∧ (s.answer c st rs).fold = s.fold
    ∧ (s.answer c st rs).gate = s.gate ∧ (s.answer c st rs).op = s.op ∧ (s.answer c st rs).routes = s.routes
    ∧ (s.answer c st rs).link = s.link ∧ (s.answer c st rs).cells = s.cells ∧ (s.answer c st rs).seqr = s.seqr
    ∧ (s.answer c st rs).guard = s.guard ∧ (s.answer c st rs).path = s.path ∧ (s.answer c st rs).balance = s.balance
    ∧ (s.answer c st rs).hold = s.hold ∧ (s.answer c st rs).out.alerts = s.out.alerts
    ∧ (s.answer c st rs).out.forward = s.out.forward ∧ (s.answer c st rs).cmd.nodes = s.cmd.nodes
    ∧ (s.answer c st rs).cmd.late = s.cmd.late ∧ (s.answer c st rs).cmd.overrun = s.cmd.overrun
    ∧ (s.answer c st rs).cmd.discards = s.cmd.discards := by
  and_intros <;> rfl

/-- What `State.arbitrate` leaves as it was. -/
@[simp] theorem State.arbitrate_frame (s : State) :
    (s.arbitrate).pending = s.pending ∧ (s.arbitrate).rst = s.rst ∧ (s.arbitrate).fold = s.fold
    ∧ (s.arbitrate).gate = s.gate ∧ (s.arbitrate).op = s.op ∧ (s.arbitrate).routes = s.routes
    ∧ (s.arbitrate).cells = s.cells ∧ (s.arbitrate).seqr = s.seqr ∧ (s.arbitrate).guard = s.guard
    ∧ (s.arbitrate).path = s.path ∧ (s.arbitrate).balance = s.balance ∧ (s.arbitrate).hold = s.hold
    ∧ (s.arbitrate).link.badCount = s.link.badCount ∧ (s.arbitrate).link.seqD = s.link.seqD
    ∧ (s.arbitrate).link.sendingD = s.link.sendingD ∧ (s.arbitrate).link.queueD = s.link.queueD
    ∧ (s.arbitrate).cmd.held = s.cmd.held ∧ (s.arbitrate).cmd.nodes = s.cmd.nodes
    ∧ (s.arbitrate).cmd.late = s.cmd.late ∧ (s.arbitrate).cmd.discards = s.cmd.discards := by
  and_intros <;> (unfold State.arbitrate; (repeat' split) <;> simp)

/-- What `State.sendSetpoint` leaves as it was. -/
@[simp] theorem State.sendSetpoint_frame (s : State) (p : Setpoint) :
    (s.sendSetpoint p).pending = s.pending ∧ (s.sendSetpoint p).rst = s.rst ∧ (s.sendSetpoint p).fold = s.fold
    ∧ (s.sendSetpoint p).op = s.op ∧ (s.sendSetpoint p).routes = s.routes ∧ (s.sendSetpoint p).out = s.out
    ∧ (s.sendSetpoint p).cells = s.cells ∧ (s.sendSetpoint p).seqr = s.seqr ∧ (s.sendSetpoint p).guard = s.guard
    ∧ (s.sendSetpoint p).balance = s.balance ∧ (s.sendSetpoint p).hold = s.hold
    ∧ (s.sendSetpoint p).link.badCount = s.link.badCount ∧ (s.sendSetpoint p).link.seqU = s.link.seqU
    ∧ (s.sendSetpoint p).link.sendingU = s.link.sendingU ∧ (s.sendSetpoint p).cmd.held = s.cmd.held
    ∧ (s.sendSetpoint p).cmd.late = s.cmd.late ∧ (s.sendSetpoint p).cmd.overrun = s.cmd.overrun
    ∧ (s.sendSetpoint p).cmd.discards = s.cmd.discards ∧ (s.sendSetpoint p).path.derate = s.path.derate
    ∧ (s.sendSetpoint p).path.handOver = s.path.handOver ∧ (s.sendSetpoint p).path.computation = s.path.computation
    ∧ (s.sendSetpoint p).path.present = s.path.present ∧ (s.sendSetpoint p).path.ship = s.path.ship
    ∧ (s.sendSetpoint p).path.pendingOffer = s.path.pendingOffer
    ∧ (s.sendSetpoint p).path.acceptedOffer = s.path.acceptedOffer ∧ (s.sendSetpoint p).path.slot = s.path.slot
    ∧ (s.sendSetpoint p).path.stage = s.path.stage ∧ (s.sendSetpoint p).path.silent = s.path.silent
    ∧ (s.sendSetpoint p).path.overdue = s.path.overdue := by
  and_intros <;> (unfold State.sendSetpoint; simp)

/-- What `State.transport` leaves as it was. -/
@[simp] theorem State.transport_frame (s : State) (p : Setpoint) :
    (s.transport p).pending = s.pending ∧ (s.transport p).rst = s.rst ∧ (s.transport p).fold = s.fold
    ∧ (s.transport p).op = s.op ∧ (s.transport p).routes = s.routes ∧ (s.transport p).out = s.out
    ∧ (s.transport p).cells = s.cells ∧ (s.transport p).seqr = s.seqr ∧ (s.transport p).guard = s.guard
    ∧ (s.transport p).balance = s.balance ∧ (s.transport p).hold = s.hold
    ∧ (s.transport p).link.badCount = s.link.badCount ∧ (s.transport p).link.seqU = s.link.seqU
    ∧ (s.transport p).link.sendingU = s.link.sendingU ∧ (s.transport p).cmd.held = s.cmd.held
    ∧ (s.transport p).cmd.late = s.cmd.late ∧ (s.transport p).cmd.overrun = s.cmd.overrun
    ∧ (s.transport p).cmd.discards = s.cmd.discards ∧ (s.transport p).path.derate = s.path.derate
    ∧ (s.transport p).path.handOver = s.path.handOver ∧ (s.transport p).path.computation = s.path.computation
    ∧ (s.transport p).path.present = s.path.present ∧ (s.transport p).path.ship = s.path.ship
    ∧ (s.transport p).path.pendingOffer = s.path.pendingOffer
    ∧ (s.transport p).path.acceptedOffer = s.path.acceptedOffer ∧ (s.transport p).path.stage = s.path.stage
    ∧ (s.transport p).path.silent = s.path.silent
    ∧ (s.transport p).path.overdue = s.path.overdue := by
  and_intros <;> (unfold State.transport; (repeat' split) <;> simp)

/-- What `State.callSetpoint` leaves as it was. -/
@[simp] theorem State.callSetpoint_frame (s : State) :
    (s.callSetpoint).pending = s.pending ∧ (s.callSetpoint).rst = s.rst ∧ (s.callSetpoint).fold = s.fold
    ∧ (s.callSetpoint).op = s.op ∧ (s.callSetpoint).routes = s.routes ∧ (s.callSetpoint).out = s.out
    ∧ (s.callSetpoint).cells = s.cells ∧ (s.callSetpoint).seqr = s.seqr ∧ (s.callSetpoint).guard = s.guard
    ∧ (s.callSetpoint).balance = s.balance ∧ (s.callSetpoint).hold = s.hold
    ∧ (s.callSetpoint).link.badCount = s.link.badCount ∧ (s.callSetpoint).link.seqU = s.link.seqU
    ∧ (s.callSetpoint).link.sendingU = s.link.sendingU ∧ (s.callSetpoint).cmd.held = s.cmd.held
    ∧ (s.callSetpoint).cmd.late = s.cmd.late ∧ (s.callSetpoint).cmd.overrun = s.cmd.overrun
    ∧ (s.callSetpoint).cmd.discards = s.cmd.discards ∧ (s.callSetpoint).path.derate = s.path.derate
    ∧ (s.callSetpoint).path.handOver = s.path.handOver ∧ (s.callSetpoint).path.present = s.path.present
    ∧ (s.callSetpoint).path.ship = s.path.ship ∧ (s.callSetpoint).path.pendingOffer = s.path.pendingOffer
    ∧ (s.callSetpoint).path.acceptedOffer = s.path.acceptedOffer ∧ (s.callSetpoint).path.stage = s.path.stage
    ∧ (s.callSetpoint).path.silent = s.path.silent
    ∧ (s.callSetpoint).path.overdue = s.path.overdue := by
  and_intros <;> (unfold State.callSetpoint; (repeat' split) <;> simp)

/-- What `State.forwardCommand` leaves as it was. -/
@[simp] theorem State.forwardCommand_frame (s : State) (c : HeldCommand) (n : NodeId) :
    (s.forwardCommand c n).pending = s.pending ∧ (s.forwardCommand c n).rst = s.rst
    ∧ (s.forwardCommand c n).fold = s.fold ∧ (s.forwardCommand c n).gate = s.gate ∧ (s.forwardCommand c n).op = s.op
    ∧ (s.forwardCommand c n).routes = s.routes ∧ (s.forwardCommand c n).out = s.out
    ∧ (s.forwardCommand c n).cells = s.cells ∧ (s.forwardCommand c n).seqr = s.seqr
    ∧ (s.forwardCommand c n).guard = s.guard ∧ (s.forwardCommand c n).path = s.path
    ∧ (s.forwardCommand c n).balance = s.balance ∧ (s.forwardCommand c n).hold = s.hold
    ∧ (s.forwardCommand c n).link.badCount = s.link.badCount ∧ (s.forwardCommand c n).link.seqU = s.link.seqU
    ∧ (s.forwardCommand c n).link.sendingU = s.link.sendingU ∧ (s.forwardCommand c n).link.seqD = s.link.seqD
    ∧ (s.forwardCommand c n).cmd.late = s.cmd.late ∧ (s.forwardCommand c n).cmd.overrun = s.cmd.overrun
    ∧ (s.forwardCommand c n).cmd.discards = s.cmd.discards := by
  and_intros <;> (unfold State.forwardCommand; simp)

/-- What `State.forwardHead` leaves as it was. -/
@[simp] theorem State.forwardHead_frame (s : State) (n : NodeId) :
    (s.forwardHead n).pending = s.pending ∧ (s.forwardHead n).rst = s.rst
    ∧ (s.forwardHead n).fold = s.fold ∧ (s.forwardHead n).gate = s.gate ∧ (s.forwardHead n).op = s.op
    ∧ (s.forwardHead n).routes = s.routes ∧ (s.forwardHead n).out = s.out
    ∧ (s.forwardHead n).cells = s.cells ∧ (s.forwardHead n).seqr = s.seqr
    ∧ (s.forwardHead n).guard = s.guard ∧ (s.forwardHead n).path = s.path
    ∧ (s.forwardHead n).balance = s.balance ∧ (s.forwardHead n).hold = s.hold
    ∧ (s.forwardHead n).link.badCount = s.link.badCount ∧ (s.forwardHead n).link.seqU = s.link.seqU
    ∧ (s.forwardHead n).link.sendingU = s.link.sendingU ∧ (s.forwardHead n).link.seqD = s.link.seqD
    ∧ (s.forwardHead n).cmd.late = s.cmd.late ∧ (s.forwardHead n).cmd.overrun = s.cmd.overrun
    ∧ (s.forwardHead n).cmd.discards = s.cmd.discards := by
  and_intros <;> (unfold State.forwardHead; (repeat' split) <;> simp)

/-- With no command waiting, a release issues none. -/
theorem State.forwardHead_none {s : State} (n : NodeId) (h : s.head = none) : s.forwardHead n = s := by
  simp [State.forwardHead, h]

/-- What `State.releaseNode` leaves as it was. -/
@[simp] theorem State.releaseNode_frame (s : State) (n : NodeId) :
    (s.releaseNode n).pending = s.pending ∧ (s.releaseNode n).rst = s.rst ∧ (s.releaseNode n).fold = s.fold
    ∧ (s.releaseNode n).op = s.op ∧ (s.releaseNode n).routes = s.routes ∧ (s.releaseNode n).out = s.out
    ∧ (s.releaseNode n).cells = s.cells ∧ (s.releaseNode n).seqr = s.seqr ∧ (s.releaseNode n).guard = s.guard
    ∧ (s.releaseNode n).balance = s.balance ∧ (s.releaseNode n).hold = s.hold
    ∧ (s.releaseNode n).link.badCount = s.link.badCount ∧ (s.releaseNode n).link.seqU = s.link.seqU
    ∧ (s.releaseNode n).link.sendingU = s.link.sendingU
    ∧ (s.releaseNode n).cmd.late = s.cmd.late ∧ (s.releaseNode n).cmd.overrun = s.cmd.overrun
    ∧ (s.releaseNode n).cmd.discards = s.cmd.discards ∧ (s.releaseNode n).path.derate = s.path.derate
    ∧ (s.releaseNode n).path.handOver = s.path.handOver ∧ (s.releaseNode n).path.computation = s.path.computation
    ∧ (s.releaseNode n).path.present = s.path.present ∧ (s.releaseNode n).path.ship = s.path.ship
    ∧ (s.releaseNode n).path.pendingOffer = s.path.pendingOffer
    ∧ (s.releaseNode n).path.acceptedOffer = s.path.acceptedOffer ∧ (s.releaseNode n).path.stage = s.path.stage
    ∧ (s.releaseNode n).path.silent = s.path.silent
    ∧ (s.releaseNode n).path.overdue = s.path.overdue := by
  and_intros <;> (unfold State.releaseNode; dsimp only; (repeat' split) <;> simp)

/-- What `State.judgePresence` leaves as it was. -/
@[simp] theorem State.judgePresence_frame (s : State) :
    (s.judgePresence).pending = s.pending ∧ (s.judgePresence).rst = s.rst ∧ (s.judgePresence).fold = s.fold
    ∧ (s.judgePresence).op = s.op ∧ (s.judgePresence).routes = s.routes ∧ (s.judgePresence).out = s.out
    ∧ (s.judgePresence).cells = s.cells ∧ (s.judgePresence).seqr = s.seqr ∧ (s.judgePresence).guard = s.guard
    ∧ (s.judgePresence).balance = s.balance ∧ (s.judgePresence).hold = s.hold
    ∧ (s.judgePresence).link.badCount = s.link.badCount ∧ (s.judgePresence).link.seqU = s.link.seqU
    ∧ (s.judgePresence).link.sendingU = s.link.sendingU ∧ (s.judgePresence).cmd.held = s.cmd.held
    ∧ (s.judgePresence).cmd.late = s.cmd.late ∧ (s.judgePresence).cmd.overrun = s.cmd.overrun
    ∧ (s.judgePresence).cmd.discards = s.cmd.discards ∧ (s.judgePresence).path.derate = s.path.derate
    ∧ (s.judgePresence).path.handOver = s.path.handOver ∧ (s.judgePresence).path.stage = s.path.stage
    ∧ (s.judgePresence).path.silent = s.path.silent
    ∧ (s.judgePresence).path.overdue = s.path.overdue := by
  and_intros <;> (unfold State.judgePresence; dsimp only; (repeat' split) <;> simp)

/-- What `State.promote` leaves as it was. -/
@[simp] theorem State.promote_frame (s : State) :
    (s.promote).pending = s.pending ∧ (s.promote).rst = s.rst ∧ (s.promote).fold = s.fold ∧ (s.promote).gate = s.gate
    ∧ (s.promote).op = s.op ∧ (s.promote).routes = s.routes ∧ (s.promote).link = s.link ∧ (s.promote).out = s.out
    ∧ (s.promote).cmd = s.cmd ∧ (s.promote).cells = s.cells ∧ (s.promote).seqr = s.seqr ∧ (s.promote).guard = s.guard
    ∧ (s.promote).balance = s.balance ∧ (s.promote).hold = s.hold ∧ (s.promote).path.derate = s.path.derate
    ∧ (s.promote).path.handOver = s.path.handOver ∧ (s.promote).path.computation = s.path.computation
    ∧ (s.promote).path.present = s.path.present ∧ (s.promote).path.ship = s.path.ship
    ∧ (s.promote).path.lastSetpoint = s.path.lastSetpoint ∧ (s.promote).path.slot = s.path.slot
    ∧ (s.promote).path.stage = s.path.stage ∧ (s.promote).path.silent = s.path.silent
    ∧ (s.promote).path.overdue = s.path.overdue := by
  and_intros <;> rfl

/-- What `State.sendBleeds` leaves as it was. -/
@[simp] theorem State.sendBleeds_frame (s : State) (c : CellId) (l : List Bool) :
    (s.sendBleeds c l).pending = s.pending ∧ (s.sendBleeds c l).rst = s.rst ∧ (s.sendBleeds c l).fold = s.fold
    ∧ (s.sendBleeds c l).gate = s.gate ∧ (s.sendBleeds c l).op = s.op ∧ (s.sendBleeds c l).routes = s.routes
    ∧ (s.sendBleeds c l).out = s.out ∧ (s.sendBleeds c l).cmd = s.cmd ∧ (s.sendBleeds c l).cells = s.cells
    ∧ (s.sendBleeds c l).seqr = s.seqr ∧ (s.sendBleeds c l).guard = s.guard ∧ (s.sendBleeds c l).path = s.path
    ∧ (s.sendBleeds c l).balance = s.balance ∧ (s.sendBleeds c l).hold = s.hold
    ∧ (s.sendBleeds c l).link.badCount = s.link.badCount ∧ (s.sendBleeds c l).link.seqU = s.link.seqU
    ∧ (s.sendBleeds c l).link.sendingU = s.link.sendingU := by
  and_intros <;> (unfold State.sendBleeds; induction l generalizing s with | nil => rfl | cons a l ih => (rw [List.foldl_cons, ih]; simp))

/-- What `State.putBleeds` leaves as it was. -/
@[simp] theorem State.putBleeds_frame (s : State) (a b : PerCell BleedRecord) :
    (s.putBleeds a b).pending = s.pending ∧ (s.putBleeds a b).rst = s.rst ∧ (s.putBleeds a b).fold = s.fold
    ∧ (s.putBleeds a b).gate = s.gate ∧ (s.putBleeds a b).op = s.op ∧ (s.putBleeds a b).routes = s.routes
    ∧ (s.putBleeds a b).out = s.out ∧ (s.putBleeds a b).cmd = s.cmd ∧ (s.putBleeds a b).cells = s.cells
    ∧ (s.putBleeds a b).seqr = s.seqr ∧ (s.putBleeds a b).guard = s.guard ∧ (s.putBleeds a b).path = s.path
    ∧ (s.putBleeds a b).hold = s.hold ∧ (s.putBleeds a b).link.badCount = s.link.badCount
    ∧ (s.putBleeds a b).link.seqU = s.link.seqU ∧ (s.putBleeds a b).link.sendingU = s.link.sendingU
    ∧ (s.putBleeds a b).balance.table = s.balance.table ∧ (s.putBleeds a b).balance.shuttle = s.balance.shuttle := by
  and_intros <;> (unfold State.putBleeds; simp)

/-- What `State.bleedsOff` leaves as it was. -/
@[simp] theorem State.bleedsOff_frame (s : State) :
    (s.bleedsOff).pending = s.pending ∧ (s.bleedsOff).rst = s.rst ∧ (s.bleedsOff).fold = s.fold
    ∧ (s.bleedsOff).gate = s.gate ∧ (s.bleedsOff).op = s.op ∧ (s.bleedsOff).routes = s.routes
    ∧ (s.bleedsOff).out = s.out ∧ (s.bleedsOff).cmd = s.cmd ∧ (s.bleedsOff).cells = s.cells
    ∧ (s.bleedsOff).seqr = s.seqr ∧ (s.bleedsOff).guard = s.guard ∧ (s.bleedsOff).path = s.path
    ∧ (s.bleedsOff).hold = s.hold ∧ (s.bleedsOff).link.badCount = s.link.badCount
    ∧ (s.bleedsOff).link.seqU = s.link.seqU ∧ (s.bleedsOff).link.sendingU = s.link.sendingU
    ∧ (s.bleedsOff).balance.table = s.balance.table ∧ (s.bleedsOff).balance.shuttle = s.balance.shuttle := by
  and_intros <;> (unfold State.bleedsOff; simp)

/-- What `State.endShuttle` leaves as it was. -/
@[simp] theorem State.endShuttle_frame (s : State) (w : EndReason) :
    (s.endShuttle w).pending = s.pending ∧ (s.endShuttle w).rst = s.rst ∧ (s.endShuttle w).fold = s.fold
    ∧ (s.endShuttle w).gate = s.gate ∧ (s.endShuttle w).op = s.op ∧ (s.endShuttle w).routes = s.routes
    ∧ (s.endShuttle w).link = s.link ∧ (s.endShuttle w).cmd = s.cmd ∧ (s.endShuttle w).cells = s.cells
    ∧ (s.endShuttle w).seqr = s.seqr ∧ (s.endShuttle w).guard = s.guard ∧ (s.endShuttle w).path = s.path
    ∧ (s.endShuttle w).hold = s.hold ∧ (s.endShuttle w).out.replies = s.out.replies
    ∧ (s.endShuttle w).out.forward = s.out.forward ∧ (s.endShuttle w).balance.table = s.balance.table
    ∧ (s.endShuttle w).balance.bleeds = s.balance.bleeds := by
  and_intros <;> (unfold State.endShuttle; dsimp only; (repeat' split) <;> simp)

/-- What `State.startShuttle` leaves as it was. -/
@[simp] theorem State.startShuttle_frame (s : State) (o : Origin) (c : CellId) (l : Int) (a : Nat) :
    (s.startShuttle o c l a).pending = s.pending ∧ (s.startShuttle o c l a).rst = s.rst
    ∧ (s.startShuttle o c l a).fold = s.fold ∧ (s.startShuttle o c l a).gate = s.gate
    ∧ (s.startShuttle o c l a).op = s.op ∧ (s.startShuttle o c l a).routes = s.routes
    ∧ (s.startShuttle o c l a).link = s.link ∧ (s.startShuttle o c l a).out = s.out
    ∧ (s.startShuttle o c l a).cmd = s.cmd ∧ (s.startShuttle o c l a).cells = s.cells
    ∧ (s.startShuttle o c l a).seqr = s.seqr ∧ (s.startShuttle o c l a).guard = s.guard
    ∧ (s.startShuttle o c l a).path = s.path ∧ (s.startShuttle o c l a).hold = s.hold
    ∧ (s.startShuttle o c l a).balance.table = s.balance.table
    ∧ (s.startShuttle o c l a).balance.bleeds = s.balance.bleeds := by
  and_intros <;> rfl

/-- What `State.endChecks` leaves as it was. -/
@[simp] theorem State.endChecks_frame (s : State) (r : Summary) (p : Permission) :
    (s.endChecks r p).pending = s.pending ∧ (s.endChecks r p).rst = s.rst ∧ (s.endChecks r p).fold = s.fold
    ∧ (s.endChecks r p).gate = s.gate ∧ (s.endChecks r p).op = s.op ∧ (s.endChecks r p).routes = s.routes
    ∧ (s.endChecks r p).link = s.link ∧ (s.endChecks r p).cmd = s.cmd ∧ (s.endChecks r p).cells = s.cells
    ∧ (s.endChecks r p).seqr = s.seqr ∧ (s.endChecks r p).guard = s.guard ∧ (s.endChecks r p).path = s.path
    ∧ (s.endChecks r p).hold = s.hold ∧ (s.endChecks r p).out.replies = s.out.replies
    ∧ (s.endChecks r p).out.forward = s.out.forward ∧ (s.endChecks r p).balance.table = s.balance.table
    ∧ (s.endChecks r p).balance.bleeds = s.balance.bleeds := by
  and_intros <;> (unfold State.endChecks; dsimp only; (repeat' split) <;> simp)

/-- What `State.autoStart` leaves as it was. -/
@[simp] theorem State.autoStart_frame (s : State) (r : Summary) :
    (s.autoStart r).pending = s.pending ∧ (s.autoStart r).rst = s.rst ∧ (s.autoStart r).fold = s.fold
    ∧ (s.autoStart r).gate = s.gate ∧ (s.autoStart r).op = s.op ∧ (s.autoStart r).routes = s.routes
    ∧ (s.autoStart r).out = s.out ∧ (s.autoStart r).cmd = s.cmd ∧ (s.autoStart r).cells = s.cells
    ∧ (s.autoStart r).seqr = s.seqr ∧ (s.autoStart r).guard = s.guard ∧ (s.autoStart r).path = s.path
    ∧ (s.autoStart r).hold = s.hold ∧ (s.autoStart r).link.badCount = s.link.badCount
    ∧ (s.autoStart r).link.seqU = s.link.seqU ∧ (s.autoStart r).link.sendingU = s.link.sendingU
    ∧ (s.autoStart r).balance.table = s.balance.table := by
  and_intros <;> (unfold State.autoStart; (repeat' split) <;> simp)

/-- What `State.bleedDecision` leaves as it was. -/
@[simp] theorem State.bleedDecision_frame (s : State) (r : Summary) (p : Permission) (m : Mode) :
    (s.bleedDecision r p m).pending = s.pending ∧ (s.bleedDecision r p m).rst = s.rst
    ∧ (s.bleedDecision r p m).fold = s.fold ∧ (s.bleedDecision r p m).gate = s.gate
    ∧ (s.bleedDecision r p m).op = s.op ∧ (s.bleedDecision r p m).routes = s.routes
    ∧ (s.bleedDecision r p m).out = s.out ∧ (s.bleedDecision r p m).cmd = s.cmd
    ∧ (s.bleedDecision r p m).cells = s.cells ∧ (s.bleedDecision r p m).seqr = s.seqr
    ∧ (s.bleedDecision r p m).guard = s.guard ∧ (s.bleedDecision r p m).path = s.path
    ∧ (s.bleedDecision r p m).hold = s.hold ∧ (s.bleedDecision r p m).link.badCount = s.link.badCount
    ∧ (s.bleedDecision r p m).link.seqU = s.link.seqU ∧ (s.bleedDecision r p m).link.sendingU = s.link.sendingU
    ∧ (s.bleedDecision r p m).balance.table = s.balance.table
    ∧ (s.bleedDecision r p m).balance.shuttle = s.balance.shuttle := by
  and_intros <;> (unfold State.bleedDecision; simp)

/-- What `State.balanceDecision` leaves as it was. -/
@[simp] theorem State.balanceDecision_frame (s : State) (r : Summary) (p : Permission) (o : Bool) (m : Mode) :
    (s.balanceDecision r p o m).pending = s.pending ∧ (s.balanceDecision r p o m).rst = s.rst
    ∧ (s.balanceDecision r p o m).fold = s.fold ∧ (s.balanceDecision r p o m).gate = s.gate
    ∧ (s.balanceDecision r p o m).op = s.op ∧ (s.balanceDecision r p o m).routes = s.routes
    ∧ (s.balanceDecision r p o m).cmd = s.cmd ∧ (s.balanceDecision r p o m).cells = s.cells
    ∧ (s.balanceDecision r p o m).seqr = s.seqr ∧ (s.balanceDecision r p o m).guard = s.guard
    ∧ (s.balanceDecision r p o m).path = s.path ∧ (s.balanceDecision r p o m).hold = s.hold
    ∧ (s.balanceDecision r p o m).link.badCount = s.link.badCount
    ∧ (s.balanceDecision r p o m).link.seqU = s.link.seqU
    ∧ (s.balanceDecision r p o m).link.sendingU = s.link.sendingU
    ∧ (s.balanceDecision r p o m).out.replies = s.out.replies
    ∧ (s.balanceDecision r p o m).out.forward = s.out.forward
    ∧ (s.balanceDecision r p o m).balance.table = s.balance.table := by
  and_intros <;> (unfold State.balanceDecision; dsimp only; (repeat' split) <;> simp)

/-- What `State.countShuttle` leaves as it was. -/
@[simp] theorem State.countShuttle_frame (s : State) (c : CellId) (n : Nat) (b : Int) :
    (s.countShuttle c n b).pending = s.pending ∧ (s.countShuttle c n b).rst = s.rst
    ∧ (s.countShuttle c n b).fold = s.fold ∧ (s.countShuttle c n b).op = s.op
    ∧ (s.countShuttle c n b).routes = s.routes ∧ (s.countShuttle c n b).cells = s.cells
    ∧ (s.countShuttle c n b).seqr = s.seqr ∧ (s.countShuttle c n b).guard = s.guard
    ∧ (s.countShuttle c n b).hold = s.hold ∧ (s.countShuttle c n b).link.badCount = s.link.badCount
    ∧ (s.countShuttle c n b).link.seqU = s.link.seqU ∧ (s.countShuttle c n b).link.sendingU = s.link.sendingU
    ∧ (s.countShuttle c n b).out.replies = s.out.replies ∧ (s.countShuttle c n b).out.forward = s.out.forward
    ∧ (s.countShuttle c n b).cmd.held = s.cmd.held ∧ (s.countShuttle c n b).cmd.late = s.cmd.late
    ∧ (s.countShuttle c n b).cmd.overrun = s.cmd.overrun ∧ (s.countShuttle c n b).cmd.discards = s.cmd.discards
    ∧ (s.countShuttle c n b).path.derate = s.path.derate ∧ (s.countShuttle c n b).path.handOver = s.path.handOver
    ∧ (s.countShuttle c n b).path.present = s.path.present ∧ (s.countShuttle c n b).path.ship = s.path.ship
    ∧ (s.countShuttle c n b).path.pendingOffer = s.path.pendingOffer
    ∧ (s.countShuttle c n b).path.acceptedOffer = s.path.acceptedOffer
    ∧ (s.countShuttle c n b).path.stage = s.path.stage ∧ (s.countShuttle c n b).path.silent = s.path.silent
    ∧ (s.countShuttle c n b).path.overdue = s.path.overdue
    ∧ (s.countShuttle c n b).balance.table = s.balance.table
    ∧ (s.countShuttle c n b).balance.bleeds = s.balance.bleeds := by
  and_intros <;> (unfold State.countShuttle; dsimp only; (repeat' split) <;> simp)

/-- What `State.compareBleed` leaves as it was. -/
@[simp] theorem State.compareBleed_frame (s : State) (c : CellId) (b : Bool) :
    (s.compareBleed c b).pending = s.pending ∧ (s.compareBleed c b).rst = s.rst ∧ (s.compareBleed c b).fold = s.fold
    ∧ (s.compareBleed c b).gate = s.gate ∧ (s.compareBleed c b).op = s.op ∧ (s.compareBleed c b).routes = s.routes
    ∧ (s.compareBleed c b).out = s.out ∧ (s.compareBleed c b).cmd = s.cmd ∧ (s.compareBleed c b).cells = s.cells
    ∧ (s.compareBleed c b).seqr = s.seqr ∧ (s.compareBleed c b).guard = s.guard ∧ (s.compareBleed c b).path = s.path
    ∧ (s.compareBleed c b).hold = s.hold ∧ (s.compareBleed c b).link.badCount = s.link.badCount
    ∧ (s.compareBleed c b).link.seqU = s.link.seqU ∧ (s.compareBleed c b).link.sendingU = s.link.sendingU
    ∧ (s.compareBleed c b).balance.table = s.balance.table ∧ (s.compareBleed c b).balance.shuttle = s.balance.shuttle := by
  and_intros <;> (unfold State.compareBleed; dsimp only; (repeat' split) <;> simp)

/-- What `State.endBalancing` leaves as it was. -/
@[simp] theorem State.endBalancing_frame (s : State) (w : AbortReason) :
    (s.endBalancing w).pending = s.pending ∧ (s.endBalancing w).rst = s.rst ∧ (s.endBalancing w).fold = s.fold
    ∧ (s.endBalancing w).gate = s.gate ∧ (s.endBalancing w).op = s.op ∧ (s.endBalancing w).routes = s.routes
    ∧ (s.endBalancing w).cmd = s.cmd ∧ (s.endBalancing w).cells = s.cells ∧ (s.endBalancing w).seqr = s.seqr
    ∧ (s.endBalancing w).guard = s.guard ∧ (s.endBalancing w).path = s.path ∧ (s.endBalancing w).hold = s.hold
    ∧ (s.endBalancing w).link.badCount = s.link.badCount ∧ (s.endBalancing w).link.seqU = s.link.seqU
    ∧ (s.endBalancing w).link.sendingU = s.link.sendingU ∧ (s.endBalancing w).out.replies = s.out.replies
    ∧ (s.endBalancing w).out.forward = s.out.forward ∧ (s.endBalancing w).balance.table = s.balance.table := by
  and_intros <;> (unfold State.endBalancing; simp)

/-- What `State.changeCauses` leaves as it was. -/
@[simp] theorem State.changeCauses_frame (s : State) (c : CauseSource) (n : Causes) (r : Option Summary) :
    (s.changeCauses c n r).pending = s.pending ∧ (s.changeCauses c n r).rst = s.rst
    ∧ (s.changeCauses c n r).fold = s.fold ∧ (s.changeCauses c n r).gate = s.gate ∧ (s.changeCauses c n r).op = s.op
    ∧ (s.changeCauses c n r).routes = s.routes ∧ (s.changeCauses c n r).link = s.link
    ∧ (s.changeCauses c n r).cmd = s.cmd ∧ (s.changeCauses c n r).cells = s.cells
    ∧ (s.changeCauses c n r).seqr = s.seqr ∧ (s.changeCauses c n r).path = s.path
    ∧ (s.changeCauses c n r).balance = s.balance ∧ (s.changeCauses c n r).hold = s.hold
    ∧ (s.changeCauses c n r).out.replies = s.out.replies ∧ (s.changeCauses c n r).out.forward = s.out.forward
    ∧ (s.changeCauses c n r).guard.table = s.guard.table ∧ (s.changeCauses c n r).guard.limits = s.guard.limits
    ∧ (s.changeCauses c n r).guard.lock = s.guard.lock ∧ (s.changeCauses c n r).guard.hostReq = s.guard.hostReq
    ∧ (s.changeCauses c n r).guard.linkMark = s.guard.linkMark := by
  and_intros <;> (unfold State.changeCauses; (repeat' split) <;> simp)

/-- What `State.dwellSync` leaves as it was. -/
@[simp] theorem State.dwellSync_frame (s : State) :
    (s.dwellSync).pending = s.pending ∧ (s.dwellSync).rst = s.rst ∧ (s.dwellSync).fold = s.fold
    ∧ (s.dwellSync).gate = s.gate ∧ (s.dwellSync).op = s.op ∧ (s.dwellSync).routes = s.routes
    ∧ (s.dwellSync).link = s.link ∧ (s.dwellSync).out = s.out ∧ (s.dwellSync).cmd = s.cmd
    ∧ (s.dwellSync).cells = s.cells ∧ (s.dwellSync).guard = s.guard ∧ (s.dwellSync).path = s.path
    ∧ (s.dwellSync).balance = s.balance ∧ (s.dwellSync).hold = s.hold ∧ (s.dwellSync).seqr.bankA = s.seqr.bankA
    ∧ (s.dwellSync).seqr.bankB = s.seqr.bankB ∧ (s.dwellSync).seqr.designation = s.seqr.designation
    ∧ (s.dwellSync).seqr.swap = s.seqr.swap ∧ (s.dwellSync).seqr.stored = s.seqr.stored
    ∧ (s.dwellSync).seqr.t = s.seqr.t ∧ (s.dwellSync).seqr.d = s.seqr.d
    ∧ (s.dwellSync).seqr.firstEval = s.seqr.firstEval ∧ (s.dwellSync).seqr.lastTest = s.seqr.lastTest
    ∧ (s.dwellSync).seqr.goto = s.seqr.goto ∧ (s.dwellSync).seqr.effective = s.seqr.effective := by
  and_intros <;> (unfold State.dwellSync; (repeat' split) <;> simp)

/-- What `State.enterFresh` leaves as it was. -/
@[simp] theorem State.enterFresh_frame (s : State) (a : StepAddr) :
    (s.enterFresh a).pending = s.pending ∧ (s.enterFresh a).rst = s.rst ∧ (s.enterFresh a).fold = s.fold
    ∧ (s.enterFresh a).gate = s.gate ∧ (s.enterFresh a).op = s.op ∧ (s.enterFresh a).routes = s.routes
    ∧ (s.enterFresh a).link = s.link ∧ (s.enterFresh a).out = s.out ∧ (s.enterFresh a).cmd = s.cmd
    ∧ (s.enterFresh a).cells = s.cells ∧ (s.enterFresh a).guard = s.guard ∧ (s.enterFresh a).path = s.path
    ∧ (s.enterFresh a).balance = s.balance ∧ (s.enterFresh a).hold = s.hold
    ∧ (s.enterFresh a).seqr.bankA = s.seqr.bankA ∧ (s.enterFresh a).seqr.bankB = s.seqr.bankB
    ∧ (s.enterFresh a).seqr.designation = s.seqr.designation ∧ (s.enterFresh a).seqr.swap = s.seqr.swap
    ∧ (s.enterFresh a).seqr.goto = s.seqr.goto ∧ (s.enterFresh a).seqr.effective = s.seqr.effective := by
  and_intros <;> (unfold State.enterFresh; simp)

/-- What `State.cancelSwap` leaves as it was. -/
@[simp] theorem State.cancelSwap_frame (s : State) (n : Nat) :
    (s.cancelSwap n).pending = s.pending ∧ (s.cancelSwap n).rst = s.rst ∧ (s.cancelSwap n).fold = s.fold
    ∧ (s.cancelSwap n).gate = s.gate ∧ (s.cancelSwap n).op = s.op ∧ (s.cancelSwap n).routes = s.routes
    ∧ (s.cancelSwap n).link = s.link ∧ (s.cancelSwap n).cells = s.cells ∧ (s.cancelSwap n).guard = s.guard
    ∧ (s.cancelSwap n).path = s.path ∧ (s.cancelSwap n).balance = s.balance ∧ (s.cancelSwap n).hold = s.hold
    ∧ (s.cancelSwap n).out.alerts = s.out.alerts ∧ (s.cancelSwap n).out.forward = s.out.forward
    ∧ (s.cancelSwap n).cmd.nodes = s.cmd.nodes ∧ (s.cancelSwap n).cmd.late = s.cmd.late
    ∧ (s.cancelSwap n).cmd.overrun = s.cmd.overrun ∧ (s.cancelSwap n).cmd.discards = s.cmd.discards
    ∧ (s.cancelSwap n).seqr.bankA = s.seqr.bankA ∧ (s.cancelSwap n).seqr.bankB = s.seqr.bankB
    ∧ (s.cancelSwap n).seqr.designation = s.seqr.designation ∧ (s.cancelSwap n).seqr.stored = s.seqr.stored
    ∧ (s.cancelSwap n).seqr.t = s.seqr.t ∧ (s.cancelSwap n).seqr.d = s.seqr.d
    ∧ (s.cancelSwap n).seqr.firstEval = s.seqr.firstEval ∧ (s.cancelSwap n).seqr.lastTest = s.seqr.lastTest
    ∧ (s.cancelSwap n).seqr.dwell = s.seqr.dwell ∧ (s.cancelSwap n).seqr.goto = s.seqr.goto
    ∧ (s.cancelSwap n).seqr.effective = s.seqr.effective := by
  and_intros <;> (unfold State.cancelSwap; (repeat' split) <;> simp)

/-- What `State.enterHeld` leaves as it was. -/
@[simp] theorem State.enterHeld_frame (s : State) (c : HoldCause) (b : Bool) :
    (s.enterHeld c b).pending = s.pending ∧ (s.enterHeld c b).rst = s.rst ∧ (s.enterHeld c b).fold = s.fold
    ∧ (s.enterHeld c b).routes = s.routes ∧ (s.enterHeld c b).cells = s.cells ∧ (s.enterHeld c b).guard = s.guard
    ∧ (s.enterHeld c b).link.badCount = s.link.badCount ∧ (s.enterHeld c b).link.seqU = s.link.seqU
    ∧ (s.enterHeld c b).link.sendingU = s.link.sendingU ∧ (s.enterHeld c b).out.forward = s.out.forward
    ∧ (s.enterHeld c b).cmd.late = s.cmd.late ∧ (s.enterHeld c b).cmd.overrun = s.cmd.overrun
    ∧ (s.enterHeld c b).cmd.discards = s.cmd.discards ∧ (s.enterHeld c b).seqr.bankA = s.seqr.bankA
    ∧ (s.enterHeld c b).seqr.bankB = s.seqr.bankB ∧ (s.enterHeld c b).seqr.designation = s.seqr.designation
    ∧ (s.enterHeld c b).seqr.stored = s.seqr.stored ∧ (s.enterHeld c b).seqr.t = s.seqr.t
    ∧ (s.enterHeld c b).seqr.d = s.seqr.d ∧ (s.enterHeld c b).seqr.firstEval = s.seqr.firstEval
    ∧ (s.enterHeld c b).seqr.lastTest = s.seqr.lastTest ∧ (s.enterHeld c b).seqr.effective = s.seqr.effective
    ∧ (s.enterHeld c b).path.derate = s.path.derate ∧ (s.enterHeld c b).path.present = s.path.present
    ∧ (s.enterHeld c b).path.ship = s.path.ship ∧ (s.enterHeld c b).path.pendingOffer = s.path.pendingOffer
    ∧ (s.enterHeld c b).path.acceptedOffer = s.path.acceptedOffer ∧ (s.enterHeld c b).path.stage = s.path.stage
    ∧ (s.enterHeld c b).path.silent = s.path.silent
    ∧ (s.enterHeld c b).path.overdue = s.path.overdue ∧ (s.enterHeld c b).balance.table = s.balance.table
    ∧ (s.enterHeld c b).hold.pendingHold = s.hold.pendingHold := by
  and_intros <;> (unfold State.enterHeld; simp)

/-- What `State.handCause` leaves as it was. -/
@[simp] theorem State.handCause_frame (s : State) (c : HoldCause) :
    (s.handCause c).pending = s.pending ∧ (s.handCause c).rst = s.rst ∧ (s.handCause c).fold = s.fold
    ∧ (s.handCause c).routes = s.routes ∧ (s.handCause c).cells = s.cells ∧ (s.handCause c).guard = s.guard
    ∧ (s.handCause c).link.badCount = s.link.badCount ∧ (s.handCause c).link.seqU = s.link.seqU
    ∧ (s.handCause c).link.sendingU = s.link.sendingU ∧ (s.handCause c).out.forward = s.out.forward
    ∧ (s.handCause c).cmd.late = s.cmd.late ∧ (s.handCause c).cmd.overrun = s.cmd.overrun
    ∧ (s.handCause c).cmd.discards = s.cmd.discards ∧ (s.handCause c).seqr.bankA = s.seqr.bankA
    ∧ (s.handCause c).seqr.bankB = s.seqr.bankB ∧ (s.handCause c).seqr.designation = s.seqr.designation
    ∧ (s.handCause c).seqr.stored = s.seqr.stored ∧ (s.handCause c).seqr.t = s.seqr.t
    ∧ (s.handCause c).seqr.d = s.seqr.d ∧ (s.handCause c).seqr.firstEval = s.seqr.firstEval
    ∧ (s.handCause c).seqr.lastTest = s.seqr.lastTest ∧ (s.handCause c).seqr.effective = s.seqr.effective
    ∧ (s.handCause c).path.derate = s.path.derate ∧ (s.handCause c).path.present = s.path.present
    ∧ (s.handCause c).path.ship = s.path.ship ∧ (s.handCause c).path.pendingOffer = s.path.pendingOffer
    ∧ (s.handCause c).path.acceptedOffer = s.path.acceptedOffer ∧ (s.handCause c).path.stage = s.path.stage
    ∧ (s.handCause c).path.silent = s.path.silent
    ∧ (s.handCause c).path.overdue = s.path.overdue ∧ (s.handCause c).balance.table = s.balance.table := by
  and_intros <;> (unfold State.handCause; (repeat' split) <;> simp)

/-- What `State.recordHandOver` leaves as it was. -/
@[simp] theorem State.recordHandOver_frame (s : State) (r : Option Summary) (a : StepAddr) (e : StepEntry) :
    (s.recordHandOver r a e).pending = s.pending ∧ (s.recordHandOver r a e).rst = s.rst
    ∧ (s.recordHandOver r a e).fold = s.fold ∧ (s.recordHandOver r a e).gate = s.gate
    ∧ (s.recordHandOver r a e).op = s.op ∧ (s.recordHandOver r a e).routes = s.routes
    ∧ (s.recordHandOver r a e).link = s.link ∧ (s.recordHandOver r a e).out = s.out
    ∧ (s.recordHandOver r a e).cmd = s.cmd ∧ (s.recordHandOver r a e).cells = s.cells
    ∧ (s.recordHandOver r a e).seqr = s.seqr ∧ (s.recordHandOver r a e).guard = s.guard
    ∧ (s.recordHandOver r a e).balance = s.balance ∧ (s.recordHandOver r a e).hold = s.hold
    ∧ (s.recordHandOver r a e).path.derate = s.path.derate
    ∧ (s.recordHandOver r a e).path.computation = s.path.computation
    ∧ (s.recordHandOver r a e).path.present = s.path.present ∧ (s.recordHandOver r a e).path.ship = s.path.ship
    ∧ (s.recordHandOver r a e).path.pendingOffer = s.path.pendingOffer
    ∧ (s.recordHandOver r a e).path.acceptedOffer = s.path.acceptedOffer
    ∧ (s.recordHandOver r a e).path.lastSetpoint = s.path.lastSetpoint
    ∧ (s.recordHandOver r a e).path.slot = s.path.slot ∧ (s.recordHandOver r a e).path.stage = s.path.stage
    ∧ (s.recordHandOver r a e).path.silent = s.path.silent
    ∧ (s.recordHandOver r a e).path.overdue = s.path.overdue := by
  and_intros <;> rfl

/-- What `State.handOver` leaves as it was. -/
@[simp] theorem State.handOver_frame (s : State) (r : Summary) (a : StepAddr) (e : StepEntry) :
    (s.handOver r a e).pending = s.pending ∧ (s.handOver r a e).rst = s.rst ∧ (s.handOver r a e).fold = s.fold
    ∧ (s.handOver r a e).op = s.op ∧ (s.handOver r a e).routes = s.routes ∧ (s.handOver r a e).cells = s.cells
    ∧ (s.handOver r a e).seqr = s.seqr ∧ (s.handOver r a e).guard = s.guard ∧ (s.handOver r a e).hold = s.hold
    ∧ (s.handOver r a e).link.badCount = s.link.badCount ∧ (s.handOver r a e).link.seqU = s.link.seqU
    ∧ (s.handOver r a e).link.sendingU = s.link.sendingU ∧ (s.handOver r a e).out.replies = s.out.replies
    ∧ (s.handOver r a e).out.forward = s.out.forward ∧ (s.handOver r a e).cmd.held = s.cmd.held
    ∧ (s.handOver r a e).cmd.late = s.cmd.late ∧ (s.handOver r a e).cmd.overrun = s.cmd.overrun
    ∧ (s.handOver r a e).cmd.discards = s.cmd.discards ∧ (s.handOver r a e).path.derate = s.path.derate
    ∧ (s.handOver r a e).path.present = s.path.present ∧ (s.handOver r a e).path.ship = s.path.ship
    ∧ (s.handOver r a e).path.pendingOffer = s.path.pendingOffer
    ∧ (s.handOver r a e).path.acceptedOffer = s.path.acceptedOffer ∧ (s.handOver r a e).path.stage = s.path.stage
    ∧ (s.handOver r a e).path.silent = s.path.silent
    ∧ (s.handOver r a e).path.overdue = s.path.overdue ∧ (s.handOver r a e).balance.table = s.balance.table := by
  and_intros <;> (unfold State.handOver; simp)

/-- What `State.evaluateLast` leaves as it was. -/
@[simp] theorem State.evaluateLast_frame (s : State) :
    (s.evaluateLast.1).pending = s.pending ∧ (s.evaluateLast.1).rst = s.rst ∧ (s.evaluateLast.1).fold = s.fold
    ∧ (s.evaluateLast.1).routes = s.routes ∧ (s.evaluateLast.1).cells = s.cells ∧ (s.evaluateLast.1).guard = s.guard
    ∧ (s.evaluateLast.1).link.badCount = s.link.badCount ∧ (s.evaluateLast.1).link.seqU = s.link.seqU
    ∧ (s.evaluateLast.1).link.sendingU = s.link.sendingU ∧ (s.evaluateLast.1).out.forward = s.out.forward
    ∧ (s.evaluateLast.1).cmd.late = s.cmd.late ∧ (s.evaluateLast.1).cmd.overrun = s.cmd.overrun
    ∧ (s.evaluateLast.1).cmd.discards = s.cmd.discards ∧ (s.evaluateLast.1).seqr.bankA = s.seqr.bankA
    ∧ (s.evaluateLast.1).seqr.bankB = s.seqr.bankB ∧ (s.evaluateLast.1).seqr.designation = s.seqr.designation
    ∧ (s.evaluateLast.1).seqr.stored = s.seqr.stored ∧ (s.evaluateLast.1).seqr.t = s.seqr.t
    ∧ (s.evaluateLast.1).seqr.d = s.seqr.d ∧ (s.evaluateLast.1).seqr.firstEval = s.seqr.firstEval
    ∧ (s.evaluateLast.1).seqr.lastTest = s.seqr.lastTest ∧ (s.evaluateLast.1).path.derate = s.path.derate
    ∧ (s.evaluateLast.1).path.present = s.path.present ∧ (s.evaluateLast.1).path.ship = s.path.ship
    ∧ (s.evaluateLast.1).path.pendingOffer = s.path.pendingOffer
    ∧ (s.evaluateLast.1).path.acceptedOffer = s.path.acceptedOffer ∧ (s.evaluateLast.1).path.stage = s.path.stage
    ∧ (s.evaluateLast.1).path.silent = s.path.silent
    ∧ (s.evaluateLast.1).path.overdue = s.path.overdue ∧ (s.evaluateLast.1).balance.table = s.balance.table := by
  and_intros <;> (unfold State.evaluateLast; dsimp only; (repeat' split) <;> simp)

/-- What `State.evaluateEntry` leaves as it was. -/
@[simp] theorem State.evaluateEntry_frame (s : State) :
    (s.evaluateEntry.1).pending = s.pending ∧ (s.evaluateEntry.1).rst = s.rst ∧ (s.evaluateEntry.1).fold = s.fold
    ∧ (s.evaluateEntry.1).routes = s.routes ∧ (s.evaluateEntry.1).cells = s.cells
    ∧ (s.evaluateEntry.1).guard = s.guard ∧ (s.evaluateEntry.1).link.badCount = s.link.badCount
    ∧ (s.evaluateEntry.1).link.seqU = s.link.seqU ∧ (s.evaluateEntry.1).link.sendingU = s.link.sendingU
    ∧ (s.evaluateEntry.1).out.forward = s.out.forward ∧ (s.evaluateEntry.1).cmd.late = s.cmd.late
    ∧ (s.evaluateEntry.1).cmd.overrun = s.cmd.overrun ∧ (s.evaluateEntry.1).cmd.discards = s.cmd.discards
    ∧ (s.evaluateEntry.1).seqr.bankA = s.seqr.bankA ∧ (s.evaluateEntry.1).seqr.bankB = s.seqr.bankB
    ∧ (s.evaluateEntry.1).seqr.designation = s.seqr.designation ∧ (s.evaluateEntry.1).seqr.stored = s.seqr.stored
    ∧ (s.evaluateEntry.1).seqr.t = s.seqr.t ∧ (s.evaluateEntry.1).seqr.d = s.seqr.d
    ∧ (s.evaluateEntry.1).seqr.firstEval = s.seqr.firstEval ∧ (s.evaluateEntry.1).seqr.lastTest = s.seqr.lastTest
    ∧ (s.evaluateEntry.1).path.derate = s.path.derate ∧ (s.evaluateEntry.1).path.present = s.path.present
    ∧ (s.evaluateEntry.1).path.ship = s.path.ship ∧ (s.evaluateEntry.1).path.pendingOffer = s.path.pendingOffer
    ∧ (s.evaluateEntry.1).path.acceptedOffer = s.path.acceptedOffer ∧ (s.evaluateEntry.1).path.stage = s.path.stage
    ∧ (s.evaluateEntry.1).path.silent = s.path.silent
    ∧ (s.evaluateEntry.1).path.overdue = s.path.overdue ∧ (s.evaluateEntry.1).balance.table = s.balance.table := by
  and_intros <;> (unfold State.evaluateEntry; dsimp only; (repeat' split) <;> simp)

/-- What `State.eventCause` leaves as it was. -/
@[simp] theorem State.eventCause_frame (s : State) (c : EventCause) :
    (s.eventCause c).pending = s.pending ∧ (s.eventCause c).rst = s.rst ∧ (s.eventCause c).fold = s.fold
    ∧ (s.eventCause c).routes = s.routes ∧ (s.eventCause c).cells = s.cells
    ∧ (s.eventCause c).link.badCount = s.link.badCount ∧ (s.eventCause c).link.seqU = s.link.seqU
    ∧ (s.eventCause c).link.sendingU = s.link.sendingU ∧ (s.eventCause c).out.forward = s.out.forward
    ∧ (s.eventCause c).cmd.late = s.cmd.late ∧ (s.eventCause c).cmd.overrun = s.cmd.overrun
    ∧ (s.eventCause c).cmd.discards = s.cmd.discards ∧ (s.eventCause c).seqr.bankA = s.seqr.bankA
    ∧ (s.eventCause c).seqr.bankB = s.seqr.bankB ∧ (s.eventCause c).seqr.designation = s.seqr.designation
    ∧ (s.eventCause c).seqr.stored = s.seqr.stored ∧ (s.eventCause c).seqr.t = s.seqr.t
    ∧ (s.eventCause c).seqr.d = s.seqr.d ∧ (s.eventCause c).seqr.firstEval = s.seqr.firstEval
    ∧ (s.eventCause c).seqr.lastTest = s.seqr.lastTest ∧ (s.eventCause c).guard.table = s.guard.table
    ∧ (s.eventCause c).guard.limits = s.guard.limits ∧ (s.eventCause c).guard.lock = s.guard.lock
    ∧ (s.eventCause c).guard.hostReq = s.guard.hostReq ∧ (s.eventCause c).guard.linkMark = s.guard.linkMark
    ∧ (s.eventCause c).path.derate = s.path.derate ∧ (s.eventCause c).path.present = s.path.present
    ∧ (s.eventCause c).path.ship = s.path.ship ∧ (s.eventCause c).path.pendingOffer = s.path.pendingOffer
    ∧ (s.eventCause c).path.acceptedOffer = s.path.acceptedOffer ∧ (s.eventCause c).path.stage = s.path.stage
    ∧ (s.eventCause c).path.silent = s.path.silent
    ∧ (s.eventCause c).path.overdue = s.path.overdue ∧ (s.eventCause c).balance.table = s.balance.table := by
  and_intros <;> (unfold State.eventCause; dsimp only; (repeat' split) <;> simp)

/-- What `State.expireDwell` leaves as it was. -/
@[simp] theorem State.expireDwell_frame (s : State) :
    (s.expireDwell).pending = s.pending ∧ (s.expireDwell).rst = s.rst ∧ (s.expireDwell).fold = s.fold
    ∧ (s.expireDwell).op = s.op ∧ (s.expireDwell).routes = s.routes ∧ (s.expireDwell).out = s.out
    ∧ (s.expireDwell).cells = s.cells ∧ (s.expireDwell).guard = s.guard ∧ (s.expireDwell).balance = s.balance
    ∧ (s.expireDwell).hold = s.hold ∧ (s.expireDwell).link.badCount = s.link.badCount
    ∧ (s.expireDwell).link.seqU = s.link.seqU ∧ (s.expireDwell).link.sendingU = s.link.sendingU
    ∧ (s.expireDwell).cmd.held = s.cmd.held ∧ (s.expireDwell).cmd.late = s.cmd.late
    ∧ (s.expireDwell).cmd.overrun = s.cmd.overrun ∧ (s.expireDwell).cmd.discards = s.cmd.discards
    ∧ (s.expireDwell).seqr.bankA = s.seqr.bankA ∧ (s.expireDwell).seqr.bankB = s.seqr.bankB
    ∧ (s.expireDwell).seqr.designation = s.seqr.designation ∧ (s.expireDwell).seqr.swap = s.seqr.swap
    ∧ (s.expireDwell).seqr.stored = s.seqr.stored ∧ (s.expireDwell).seqr.t = s.seqr.t
    ∧ (s.expireDwell).seqr.firstEval = s.seqr.firstEval ∧ (s.expireDwell).seqr.lastTest = s.seqr.lastTest
    ∧ (s.expireDwell).seqr.goto = s.seqr.goto ∧ (s.expireDwell).seqr.effective = s.seqr.effective
    ∧ (s.expireDwell).path.derate = s.path.derate ∧ (s.expireDwell).path.present = s.path.present
    ∧ (s.expireDwell).path.ship = s.path.ship ∧ (s.expireDwell).path.pendingOffer = s.path.pendingOffer
    ∧ (s.expireDwell).path.acceptedOffer = s.path.acceptedOffer ∧ (s.expireDwell).path.stage = s.path.stage
    ∧ (s.expireDwell).path.silent = s.path.silent
    ∧ (s.expireDwell).path.overdue = s.path.overdue := by
  and_intros <;> (unfold State.expireDwell; dsimp only; (repeat' split) <;> simp)

/-- What `State.goodFrameD` leaves as it was. -/
@[simp] theorem State.goodFrameD_frame (s : State) :
    (s.goodFrameD).pending = s.pending ∧ (s.goodFrameD).rst = s.rst ∧ (s.goodFrameD).fold = s.fold
    ∧ (s.goodFrameD).gate = s.gate ∧ (s.goodFrameD).op = s.op ∧ (s.goodFrameD).routes = s.routes
    ∧ (s.goodFrameD).out = s.out ∧ (s.goodFrameD).cmd = s.cmd ∧ (s.goodFrameD).cells = s.cells
    ∧ (s.goodFrameD).seqr = s.seqr ∧ (s.goodFrameD).path = s.path ∧ (s.goodFrameD).balance = s.balance
    ∧ (s.goodFrameD).hold = s.hold ∧ (s.goodFrameD).link.seqU = s.link.seqU
    ∧ (s.goodFrameD).link.sendingU = s.link.sendingU ∧ (s.goodFrameD).link.seqD = s.link.seqD
    ∧ (s.goodFrameD).link.sendingD = s.link.sendingD ∧ (s.goodFrameD).link.queueD = s.link.queueD
    ∧ (s.goodFrameD).guard.table = s.guard.table ∧ (s.goodFrameD).guard.limits = s.guard.limits
    ∧ (s.goodFrameD).guard.lock = s.guard.lock ∧ (s.goodFrameD).guard.causes = s.guard.causes
    ∧ (s.goodFrameD).guard.hostReq = s.guard.hostReq ∧ (s.goodFrameD).guard.changes = s.guard.changes := by
  and_intros <;> (unfold State.goodFrameD; (repeat' split) <;> simp)

/-- What `State.badFrameD` leaves as it was. -/
@[simp] theorem State.badFrameD_frame (s : State) :
    (s.badFrameD).pending = s.pending ∧ (s.badFrameD).rst = s.rst ∧ (s.badFrameD).fold = s.fold
    ∧ (s.badFrameD).routes = s.routes ∧ (s.badFrameD).cells = s.cells ∧ (s.badFrameD).link.seqU = s.link.seqU
    ∧ (s.badFrameD).link.sendingU = s.link.sendingU ∧ (s.badFrameD).out.forward = s.out.forward
    ∧ (s.badFrameD).cmd.late = s.cmd.late ∧ (s.badFrameD).cmd.overrun = s.cmd.overrun
    ∧ (s.badFrameD).cmd.discards = s.cmd.discards ∧ (s.badFrameD).seqr.bankA = s.seqr.bankA
    ∧ (s.badFrameD).seqr.bankB = s.seqr.bankB ∧ (s.badFrameD).seqr.designation = s.seqr.designation
    ∧ (s.badFrameD).seqr.stored = s.seqr.stored ∧ (s.badFrameD).seqr.t = s.seqr.t ∧ (s.badFrameD).seqr.d = s.seqr.d
    ∧ (s.badFrameD).seqr.firstEval = s.seqr.firstEval ∧ (s.badFrameD).seqr.lastTest = s.seqr.lastTest
    ∧ (s.badFrameD).guard.table = s.guard.table ∧ (s.badFrameD).guard.limits = s.guard.limits
    ∧ (s.badFrameD).guard.lock = s.guard.lock ∧ (s.badFrameD).guard.hostReq = s.guard.hostReq
    ∧ (s.badFrameD).path.derate = s.path.derate ∧ (s.badFrameD).path.present = s.path.present
    ∧ (s.badFrameD).path.ship = s.path.ship ∧ (s.badFrameD).path.pendingOffer = s.path.pendingOffer
    ∧ (s.badFrameD).path.acceptedOffer = s.path.acceptedOffer ∧ (s.badFrameD).path.stage = s.path.stage
    ∧ (s.badFrameD).path.silent = s.path.silent
    ∧ (s.badFrameD).path.overdue = s.path.overdue ∧ (s.badFrameD).balance.table = s.balance.table := by
  and_intros <;> (unfold State.badFrameD; (repeat' split) <;> simp)

/-- What `State.routeDecision` leaves as it was. -/
@[simp] theorem State.routeDecision_frame (s : State) (i : Fin 12) :
    ((s.routeDecision i).2).pending = s.pending ∧ ((s.routeDecision i).2).rst = s.rst
    ∧ ((s.routeDecision i).2).fold = s.fold ∧ ((s.routeDecision i).2).gate = s.gate
    ∧ ((s.routeDecision i).2).op = s.op ∧ ((s.routeDecision i).2).link = s.link ∧ ((s.routeDecision i).2).out = s.out
    ∧ ((s.routeDecision i).2).cmd = s.cmd ∧ ((s.routeDecision i).2).cells = s.cells
    ∧ ((s.routeDecision i).2).seqr = s.seqr ∧ ((s.routeDecision i).2).guard = s.guard
    ∧ ((s.routeDecision i).2).path = s.path ∧ ((s.routeDecision i).2).balance = s.balance
    ∧ ((s.routeDecision i).2).hold = s.hold := by
  and_intros <;> rfl

/-- What `State.forwardPlain` leaves as it was. -/
@[simp] theorem State.forwardPlain_frame (s : State) (p : Pass) (f : Frame) :
    (s.forwardPlain p f).pending = s.pending ∧ (s.forwardPlain p f).rst = s.rst ∧ (s.forwardPlain p f).fold = s.fold
    ∧ (s.forwardPlain p f).gate = s.gate ∧ (s.forwardPlain p f).op = s.op ∧ (s.forwardPlain p f).routes = s.routes
    ∧ (s.forwardPlain p f).link = s.link ∧ (s.forwardPlain p f).cmd = s.cmd ∧ (s.forwardPlain p f).cells = s.cells
    ∧ (s.forwardPlain p f).seqr = s.seqr ∧ (s.forwardPlain p f).guard = s.guard ∧ (s.forwardPlain p f).path = s.path
    ∧ (s.forwardPlain p f).balance = s.balance ∧ (s.forwardPlain p f).hold = s.hold
    ∧ (s.forwardPlain p f).out.alerts = s.out.alerts ∧ (s.forwardPlain p f).out.replies = s.out.replies := by
  and_intros <;> (unfold State.forwardPlain; (repeat' split) <;> simp)

/-- What `State.breach` leaves as it was. -/
@[simp] theorem State.breach_frame (s : State) (c : CellId) (q : Byte) (p : Bool) (b : HoldKind × Int) :
    (s.breach c q p b).pending = s.pending ∧ (s.breach c q p b).rst = s.rst ∧ (s.breach c q p b).fold = s.fold
    ∧ (s.breach c q p b).routes = s.routes ∧ (s.breach c q p b).guard = s.guard
    ∧ (s.breach c q p b).link.badCount = s.link.badCount ∧ (s.breach c q p b).link.seqU = s.link.seqU
    ∧ (s.breach c q p b).link.sendingU = s.link.sendingU ∧ (s.breach c q p b).out.forward = s.out.forward
    ∧ (s.breach c q p b).cmd.late = s.cmd.late ∧ (s.breach c q p b).cmd.overrun = s.cmd.overrun
    ∧ (s.breach c q p b).cmd.discards = s.cmd.discards ∧ (s.breach c q p b).cells.input = s.cells.input
    ∧ (s.breach c q p b).cells.table = s.cells.table ∧ (s.breach c q p b).cells.ocv = s.cells.ocv
    ∧ (s.breach c q p b).cells.lastRound = s.cells.lastRound ∧ (s.breach c q p b).seqr.bankA = s.seqr.bankA
    ∧ (s.breach c q p b).seqr.bankB = s.seqr.bankB ∧ (s.breach c q p b).seqr.designation = s.seqr.designation
    ∧ (s.breach c q p b).seqr.stored = s.seqr.stored ∧ (s.breach c q p b).seqr.t = s.seqr.t
    ∧ (s.breach c q p b).seqr.d = s.seqr.d ∧ (s.breach c q p b).seqr.firstEval = s.seqr.firstEval
    ∧ (s.breach c q p b).seqr.lastTest = s.seqr.lastTest ∧ (s.breach c q p b).seqr.effective = s.seqr.effective
    ∧ (s.breach c q p b).path.derate = s.path.derate ∧ (s.breach c q p b).path.present = s.path.present
    ∧ (s.breach c q p b).path.ship = s.path.ship ∧ (s.breach c q p b).path.pendingOffer = s.path.pendingOffer
    ∧ (s.breach c q p b).path.acceptedOffer = s.path.acceptedOffer ∧ (s.breach c q p b).path.stage = s.path.stage
    ∧ (s.breach c q p b).path.silent = s.path.silent
    ∧ (s.breach c q p b).path.overdue = s.path.overdue ∧ (s.breach c q p b).balance.table = s.balance.table := by
  and_intros <;> (unfold State.breach; (repeat' split) <;> simp)

/-- What `State.takeInput` leaves as it was. -/
@[simp] theorem State.takeInput_frame (s : State) (f : InputFrame) :
    (s.takeInput f).pending = s.pending ∧ (s.takeInput f).rst = s.rst ∧ (s.takeInput f).fold = s.fold
    ∧ (s.takeInput f).op = s.op ∧ (s.takeInput f).routes = s.routes ∧ (s.takeInput f).out = s.out
    ∧ (s.takeInput f).seqr = s.seqr ∧ (s.takeInput f).guard = s.guard ∧ (s.takeInput f).balance = s.balance
    ∧ (s.takeInput f).hold = s.hold ∧ (s.takeInput f).link.badCount = s.link.badCount
    ∧ (s.takeInput f).link.seqU = s.link.seqU ∧ (s.takeInput f).link.sendingU = s.link.sendingU
    ∧ (s.takeInput f).cmd.held = s.cmd.held ∧ (s.takeInput f).cmd.late = s.cmd.late
    ∧ (s.takeInput f).cmd.overrun = s.cmd.overrun ∧ (s.takeInput f).cmd.discards = s.cmd.discards
    ∧ (s.takeInput f).cells.records = s.cells.records ∧ (s.takeInput f).cells.table = s.cells.table
    ∧ (s.takeInput f).cells.ocv = s.cells.ocv ∧ (s.takeInput f).cells.lastRound = s.cells.lastRound
    ∧ (s.takeInput f).path.derate = s.path.derate ∧ (s.takeInput f).path.handOver = s.path.handOver
    ∧ (s.takeInput f).path.stage = s.path.stage ∧ (s.takeInput f).path.silent = s.path.silent
    ∧ (s.takeInput f).path.overdue = s.path.overdue := by
  and_intros <;> (unfold State.takeInput; (repeat' split) <;> simp)

/-- What `State.enterReport` leaves as it was. -/
@[simp] theorem State.enterReport_frame (s : State) (f : StageFrame) (b : Bool) :
    (s.enterReport f b).pending = s.pending ∧ (s.enterReport f b).rst = s.rst ∧ (s.enterReport f b).fold = s.fold
    ∧ (s.enterReport f b).op = s.op ∧ (s.enterReport f b).routes = s.routes ∧ (s.enterReport f b).out = s.out
    ∧ (s.enterReport f b).cells = s.cells ∧ (s.enterReport f b).seqr = s.seqr ∧ (s.enterReport f b).guard = s.guard
    ∧ (s.enterReport f b).balance = s.balance ∧ (s.enterReport f b).hold = s.hold
    ∧ (s.enterReport f b).link.badCount = s.link.badCount ∧ (s.enterReport f b).link.seqU = s.link.seqU
    ∧ (s.enterReport f b).link.sendingU = s.link.sendingU
    ∧ (s.enterReport f b).cmd.late = s.cmd.late ∧ (s.enterReport f b).cmd.overrun = s.cmd.overrun
    ∧ (s.enterReport f b).cmd.discards = s.cmd.discards ∧ (s.enterReport f b).path.derate = s.path.derate
    ∧ (s.enterReport f b).path.handOver = s.path.handOver ∧ (s.enterReport f b).path.computation = s.path.computation
    ∧ (s.enterReport f b).path.present = s.path.present ∧ (s.enterReport f b).path.ship = s.path.ship
    ∧ (s.enterReport f b).path.pendingOffer = s.path.pendingOffer
    ∧ (s.enterReport f b).path.acceptedOffer = s.path.acceptedOffer := by
  and_intros <;> (unfold State.enterReport; dsimp only; split <;> simp)

/-- What `State.takeStage` leaves as it was. -/
@[simp] theorem State.takeStage_frame (s : State) (f : StageFrame) (p : Bool) :
    (s.takeStage f p).pending = s.pending ∧ (s.takeStage f p).rst = s.rst ∧ (s.takeStage f p).fold = s.fold
    ∧ (s.takeStage f p).routes = s.routes ∧ (s.takeStage f p).cells = s.cells ∧ (s.takeStage f p).guard = s.guard
    ∧ (s.takeStage f p).link.badCount = s.link.badCount ∧ (s.takeStage f p).link.seqU = s.link.seqU
    ∧ (s.takeStage f p).link.sendingU = s.link.sendingU ∧ (s.takeStage f p).out.forward = s.out.forward
    ∧ (s.takeStage f p).cmd.late = s.cmd.late ∧ (s.takeStage f p).cmd.overrun = s.cmd.overrun
    ∧ (s.takeStage f p).cmd.discards = s.cmd.discards ∧ (s.takeStage f p).seqr.bankA = s.seqr.bankA
    ∧ (s.takeStage f p).seqr.bankB = s.seqr.bankB ∧ (s.takeStage f p).seqr.designation = s.seqr.designation
    ∧ (s.takeStage f p).seqr.stored = s.seqr.stored ∧ (s.takeStage f p).seqr.t = s.seqr.t
    ∧ (s.takeStage f p).seqr.d = s.seqr.d ∧ (s.takeStage f p).seqr.firstEval = s.seqr.firstEval
    ∧ (s.takeStage f p).seqr.lastTest = s.seqr.lastTest ∧ (s.takeStage f p).seqr.effective = s.seqr.effective
    ∧ (s.takeStage f p).path.derate = s.path.derate ∧ (s.takeStage f p).path.present = s.path.present
    ∧ (s.takeStage f p).path.ship = s.path.ship ∧ (s.takeStage f p).path.pendingOffer = s.path.pendingOffer
    ∧ (s.takeStage f p).path.acceptedOffer = s.path.acceptedOffer ∧ (s.takeStage f p).balance.table = s.balance.table := by
  and_intros <;> (unfold State.takeStage; (repeat' split) <;> simp)

/-- What `State.expireStaleness` leaves as it was. -/
@[simp] theorem State.expireStaleness_frame (s : State) (x : TimedRecord) :
    (s.expireStaleness x).pending = s.pending ∧ (s.expireStaleness x).rst = s.rst
    ∧ (s.expireStaleness x).fold = s.fold ∧ (s.expireStaleness x).routes = s.routes
    ∧ (s.expireStaleness x).link.badCount = s.link.badCount ∧ (s.expireStaleness x).link.seqU = s.link.seqU
    ∧ (s.expireStaleness x).link.sendingU = s.link.sendingU ∧ (s.expireStaleness x).out.forward = s.out.forward
    ∧ (s.expireStaleness x).cmd.late = s.cmd.late ∧ (s.expireStaleness x).cmd.overrun = s.cmd.overrun
    ∧ (s.expireStaleness x).cmd.discards = s.cmd.discards ∧ (s.expireStaleness x).cells.table = s.cells.table
    ∧ (s.expireStaleness x).cells.ocv = s.cells.ocv ∧ (s.expireStaleness x).cells.lastRound = s.cells.lastRound
    ∧ (s.expireStaleness x).seqr.bankA = s.seqr.bankA ∧ (s.expireStaleness x).seqr.bankB = s.seqr.bankB
    ∧ (s.expireStaleness x).seqr.designation = s.seqr.designation ∧ (s.expireStaleness x).seqr.stored = s.seqr.stored
    ∧ (s.expireStaleness x).seqr.t = s.seqr.t ∧ (s.expireStaleness x).seqr.d = s.seqr.d
    ∧ (s.expireStaleness x).seqr.firstEval = s.seqr.firstEval ∧ (s.expireStaleness x).seqr.lastTest = s.seqr.lastTest
    ∧ (s.expireStaleness x).guard.table = s.guard.table ∧ (s.expireStaleness x).guard.limits = s.guard.limits
    ∧ (s.expireStaleness x).guard.lock = s.guard.lock ∧ (s.expireStaleness x).guard.hostReq = s.guard.hostReq
    ∧ (s.expireStaleness x).guard.linkMark = s.guard.linkMark ∧ (s.expireStaleness x).path.derate = s.path.derate
    ∧ (s.expireStaleness x).path.stage = s.path.stage ∧ (s.expireStaleness x).path.silent = s.path.silent
    ∧ (s.expireStaleness x).path.overdue = s.path.overdue
    ∧ (s.expireStaleness x).balance.table = s.balance.table := by
  and_intros <;> (unfold State.expireStaleness; (repeat' split) <;> simp)

/-- What `State.expireRest` leaves as it was. -/
@[simp] theorem State.expireRest_frame (s : State) (c : CellId) :
    (s.expireRest c).pending = s.pending ∧ (s.expireRest c).rst = s.rst ∧ (s.expireRest c).fold = s.fold
    ∧ (s.expireRest c).gate = s.gate ∧ (s.expireRest c).op = s.op ∧ (s.expireRest c).routes = s.routes
    ∧ (s.expireRest c).link = s.link ∧ (s.expireRest c).out = s.out ∧ (s.expireRest c).cmd = s.cmd
    ∧ (s.expireRest c).seqr = s.seqr ∧ (s.expireRest c).guard = s.guard ∧ (s.expireRest c).path = s.path
    ∧ (s.expireRest c).balance = s.balance ∧ (s.expireRest c).hold = s.hold
    ∧ (s.expireRest c).cells.input = s.cells.input ∧ (s.expireRest c).cells.table = s.cells.table
    ∧ (s.expireRest c).cells.ocv = s.cells.ocv ∧ (s.expireRest c).cells.lastRound = s.cells.lastRound := by
  and_intros <;> (unfold State.expireRest; (repeat' split) <;> simp)

/-- What `State.sentD` leaves as it was. -/
@[simp] theorem State.sentD_frame (s : State) :
    (s.sentD).pending = s.pending ∧ (s.sentD).rst = s.rst ∧ (s.sentD).fold = s.fold ∧ (s.sentD).gate = s.gate
    ∧ (s.sentD).op = s.op ∧ (s.sentD).routes = s.routes ∧ (s.sentD).out = s.out ∧ (s.sentD).cmd = s.cmd
    ∧ (s.sentD).cells = s.cells ∧ (s.sentD).seqr = s.seqr ∧ (s.sentD).guard = s.guard ∧ (s.sentD).path = s.path
    ∧ (s.sentD).balance = s.balance ∧ (s.sentD).hold = s.hold ∧ (s.sentD).link.badCount = s.link.badCount
    ∧ (s.sentD).link.seqU = s.link.seqU ∧ (s.sentD).link.sendingU = s.link.sendingU
    ∧ (s.sentD).link.seqD = s.link.seqD := by
  and_intros <;> (unfold State.sentD; (repeat' split) <;> simp)

/-- What `State.expireWait` leaves as it was. -/
@[simp] theorem State.expireWait_frame (s : State) :
    (s.expireWait).pending = s.pending ∧ (s.expireWait).rst = s.rst ∧ (s.expireWait).fold = s.fold
    ∧ (s.expireWait).gate = s.gate ∧ (s.expireWait).op = s.op ∧ (s.expireWait).routes = s.routes
    ∧ (s.expireWait).link = s.link ∧ (s.expireWait).cells = s.cells ∧ (s.expireWait).seqr = s.seqr
    ∧ (s.expireWait).guard = s.guard ∧ (s.expireWait).path = s.path ∧ (s.expireWait).balance = s.balance
    ∧ (s.expireWait).hold = s.hold ∧ (s.expireWait).out.alerts = s.out.alerts
    ∧ (s.expireWait).out.forward = s.out.forward ∧ (s.expireWait).cmd.nodes = s.cmd.nodes
    ∧ (s.expireWait).cmd.late = s.cmd.late ∧ (s.expireWait).cmd.overrun = s.cmd.overrun
    ∧ (s.expireWait).cmd.discards = s.cmd.discards := by
  and_intros <;> (unfold State.expireWait; (repeat' split) <;> simp)

/-- What `State.expireNode` leaves as it was. -/
@[simp] theorem State.expireNode_frame (s : State) (n : NodeId) :
    (s.expireNode n).pending = s.pending ∧ (s.expireNode n).rst = s.rst ∧ (s.expireNode n).fold = s.fold
    ∧ (s.expireNode n).op = s.op ∧ (s.expireNode n).routes = s.routes ∧ (s.expireNode n).cells = s.cells
    ∧ (s.expireNode n).seqr = s.seqr ∧ (s.expireNode n).guard = s.guard ∧ (s.expireNode n).balance = s.balance
    ∧ (s.expireNode n).hold = s.hold ∧ (s.expireNode n).link.badCount = s.link.badCount
    ∧ (s.expireNode n).link.seqU = s.link.seqU ∧ (s.expireNode n).link.sendingU = s.link.sendingU
    ∧ (s.expireNode n).out.alerts = s.out.alerts ∧ (s.expireNode n).out.forward = s.out.forward
    ∧ (s.expireNode n).cmd.late = s.cmd.late ∧ (s.expireNode n).cmd.overrun = s.cmd.overrun
    ∧ (s.expireNode n).cmd.discards = s.cmd.discards ∧ (s.expireNode n).path.derate = s.path.derate
    ∧ (s.expireNode n).path.handOver = s.path.handOver ∧ (s.expireNode n).path.computation = s.path.computation
    ∧ (s.expireNode n).path.present = s.path.present ∧ (s.expireNode n).path.ship = s.path.ship
    ∧ (s.expireNode n).path.pendingOffer = s.path.pendingOffer
    ∧ (s.expireNode n).path.acceptedOffer = s.path.acceptedOffer ∧ (s.expireNode n).path.stage = s.path.stage
    ∧ (s.expireNode n).path.silent = s.path.silent
    ∧ (s.expireNode n).path.overdue = s.path.overdue := by
  and_intros <;> (unfold State.expireNode; (repeat' split) <;> simp)

/-- What `State.expireAnswer` leaves as it was. -/
@[simp] theorem State.expireAnswer_frame (s : State) :
    (s.expireAnswer).pending = s.pending ∧ (s.expireAnswer).rst = s.rst ∧ (s.expireAnswer).fold = s.fold
    ∧ (s.expireAnswer).routes = s.routes ∧ (s.expireAnswer).cells = s.cells ∧ (s.expireAnswer).guard = s.guard
    ∧ (s.expireAnswer).link.badCount = s.link.badCount ∧ (s.expireAnswer).link.seqU = s.link.seqU
    ∧ (s.expireAnswer).link.sendingU = s.link.sendingU ∧ (s.expireAnswer).out.forward = s.out.forward
    ∧ (s.expireAnswer).cmd.late = s.cmd.late ∧ (s.expireAnswer).cmd.overrun = s.cmd.overrun
    ∧ (s.expireAnswer).cmd.discards = s.cmd.discards ∧ (s.expireAnswer).seqr.bankA = s.seqr.bankA
    ∧ (s.expireAnswer).seqr.bankB = s.seqr.bankB ∧ (s.expireAnswer).seqr.designation = s.seqr.designation
    ∧ (s.expireAnswer).seqr.stored = s.seqr.stored ∧ (s.expireAnswer).seqr.t = s.seqr.t
    ∧ (s.expireAnswer).seqr.d = s.seqr.d ∧ (s.expireAnswer).seqr.firstEval = s.seqr.firstEval
    ∧ (s.expireAnswer).seqr.lastTest = s.seqr.lastTest ∧ (s.expireAnswer).seqr.effective = s.seqr.effective
    ∧ (s.expireAnswer).path.derate = s.path.derate ∧ (s.expireAnswer).path.present = s.path.present
    ∧ (s.expireAnswer).path.ship = s.path.ship ∧ (s.expireAnswer).path.pendingOffer = s.path.pendingOffer
    ∧ (s.expireAnswer).path.acceptedOffer = s.path.acceptedOffer ∧ (s.expireAnswer).path.stage = s.path.stage
    ∧ (s.expireAnswer).balance.table = s.balance.table := by
  and_intros <;> (unfold State.expireAnswer; (repeat' split) <;> simp)

/-- What `State.expireTimeLimit` leaves as it was. -/
@[simp] theorem State.expireTimeLimit_frame (s : State) :
    (s.expireTimeLimit).pending = s.pending ∧ (s.expireTimeLimit).rst = s.rst ∧ (s.expireTimeLimit).fold = s.fold
    ∧ (s.expireTimeLimit).op = s.op ∧ (s.expireTimeLimit).routes = s.routes ∧ (s.expireTimeLimit).cells = s.cells
    ∧ (s.expireTimeLimit).seqr = s.seqr ∧ (s.expireTimeLimit).guard = s.guard ∧ (s.expireTimeLimit).hold = s.hold
    ∧ (s.expireTimeLimit).link.badCount = s.link.badCount ∧ (s.expireTimeLimit).link.seqU = s.link.seqU
    ∧ (s.expireTimeLimit).link.sendingU = s.link.sendingU ∧ (s.expireTimeLimit).out.replies = s.out.replies
    ∧ (s.expireTimeLimit).out.forward = s.out.forward ∧ (s.expireTimeLimit).cmd.held = s.cmd.held
    ∧ (s.expireTimeLimit).cmd.late = s.cmd.late ∧ (s.expireTimeLimit).cmd.overrun = s.cmd.overrun
    ∧ (s.expireTimeLimit).cmd.discards = s.cmd.discards ∧ (s.expireTimeLimit).path.derate = s.path.derate
    ∧ (s.expireTimeLimit).path.handOver = s.path.handOver ∧ (s.expireTimeLimit).path.present = s.path.present
    ∧ (s.expireTimeLimit).path.ship = s.path.ship ∧ (s.expireTimeLimit).path.pendingOffer = s.path.pendingOffer
    ∧ (s.expireTimeLimit).path.acceptedOffer = s.path.acceptedOffer ∧ (s.expireTimeLimit).path.stage = s.path.stage
    ∧ (s.expireTimeLimit).path.silent = s.path.silent
    ∧ (s.expireTimeLimit).path.overdue = s.path.overdue ∧ (s.expireTimeLimit).balance.table = s.balance.table
    ∧ (s.expireTimeLimit).balance.bleeds = s.balance.bleeds := by
  and_intros <;> (unfold State.expireTimeLimit; (repeat' split) <;> simp)

/-- What `State.takeNodeReply` leaves as it was. -/
@[simp] theorem State.takeNodeReply_frame (s : State) (n : NodeId) (d : Address) (q : Byte) (p : List Byte) :
    (s.takeNodeReply n d q p).pending = s.pending ∧ (s.takeNodeReply n d q p).rst = s.rst
    ∧ (s.takeNodeReply n d q p).fold = s.fold ∧ (s.takeNodeReply n d q p).op = s.op
    ∧ (s.takeNodeReply n d q p).routes = s.routes ∧ (s.takeNodeReply n d q p).cells = s.cells
    ∧ (s.takeNodeReply n d q p).seqr = s.seqr ∧ (s.takeNodeReply n d q p).guard = s.guard
    ∧ (s.takeNodeReply n d q p).balance = s.balance ∧ (s.takeNodeReply n d q p).hold = s.hold
    ∧ (s.takeNodeReply n d q p).link.badCount = s.link.badCount ∧ (s.takeNodeReply n d q p).link.seqU = s.link.seqU
    ∧ (s.takeNodeReply n d q p).link.sendingU = s.link.sendingU ∧ (s.takeNodeReply n d q p).out.alerts = s.out.alerts
    ∧ (s.takeNodeReply n d q p).out.replies = s.out.replies ∧ (s.takeNodeReply n d q p).cmd.overrun = s.cmd.overrun
    ∧ (s.takeNodeReply n d q p).cmd.discards = s.cmd.discards ∧ (s.takeNodeReply n d q p).path.derate = s.path.derate
    ∧ (s.takeNodeReply n d q p).path.handOver = s.path.handOver
    ∧ (s.takeNodeReply n d q p).path.computation = s.path.computation
    ∧ (s.takeNodeReply n d q p).path.present = s.path.present ∧ (s.takeNodeReply n d q p).path.ship = s.path.ship
    ∧ (s.takeNodeReply n d q p).path.pendingOffer = s.path.pendingOffer
    ∧ (s.takeNodeReply n d q p).path.acceptedOffer = s.path.acceptedOffer
    ∧ (s.takeNodeReply n d q p).path.stage = s.path.stage ∧ (s.takeNodeReply n d q p).path.silent = s.path.silent
    ∧ (s.takeNodeReply n d q p).path.overdue = s.path.overdue := by
  and_intros <;> (unfold State.takeNodeReply; (repeat' split) <;> simp)

/-- What `State.leaveForConfig` leaves as it was. -/
@[simp] theorem State.leaveForConfig_frame (s : State) :
    (s.leaveForConfig).pending = s.pending ∧ (s.leaveForConfig).rst = s.rst ∧ (s.leaveForConfig).fold = s.fold
    ∧ (s.leaveForConfig).routes = s.routes ∧ (s.leaveForConfig).cells = s.cells ∧ (s.leaveForConfig).hold = s.hold
    ∧ (s.leaveForConfig).link.badCount = s.link.badCount ∧ (s.leaveForConfig).link.seqU = s.link.seqU
    ∧ (s.leaveForConfig).link.sendingU = s.link.sendingU ∧ (s.leaveForConfig).out.forward = s.out.forward
    ∧ (s.leaveForConfig).cmd.late = s.cmd.late ∧ (s.leaveForConfig).cmd.overrun = s.cmd.overrun
    ∧ (s.leaveForConfig).cmd.discards = s.cmd.discards ∧ (s.leaveForConfig).seqr.bankA = s.seqr.bankA
    ∧ (s.leaveForConfig).seqr.bankB = s.seqr.bankB ∧ (s.leaveForConfig).seqr.designation = s.seqr.designation
    ∧ (s.leaveForConfig).seqr.stored = s.seqr.stored ∧ (s.leaveForConfig).seqr.t = s.seqr.t
    ∧ (s.leaveForConfig).seqr.d = s.seqr.d ∧ (s.leaveForConfig).seqr.firstEval = s.seqr.firstEval
    ∧ (s.leaveForConfig).seqr.lastTest = s.seqr.lastTest ∧ (s.leaveForConfig).guard.table = s.guard.table
    ∧ (s.leaveForConfig).guard.limits = s.guard.limits ∧ (s.leaveForConfig).guard.lock = s.guard.lock
    ∧ (s.leaveForConfig).guard.linkMark = s.guard.linkMark ∧ (s.leaveForConfig).path.derate = s.path.derate
    ∧ (s.leaveForConfig).path.present = s.path.present ∧ (s.leaveForConfig).path.ship = s.path.ship
    ∧ (s.leaveForConfig).path.pendingOffer = s.path.pendingOffer
    ∧ (s.leaveForConfig).path.acceptedOffer = s.path.acceptedOffer ∧ (s.leaveForConfig).path.stage = s.path.stage
    ∧ (s.leaveForConfig).path.silent = s.path.silent
    ∧ (s.leaveForConfig).path.overdue = s.path.overdue ∧ (s.leaveForConfig).balance.table = s.balance.table := by
  and_intros <;> (unfold State.leaveForConfig State.stopSequencer State.emptyCauses; simp)

/-- What `State.startSteps` leaves as it was. -/
@[simp] theorem State.startSteps_frame (s : State) (a : StepAddr) :
    (s.startSteps a).pending = s.pending ∧ (s.startSteps a).rst = s.rst ∧ (s.startSteps a).fold = s.fold
    ∧ (s.startSteps a).gate = s.gate ∧ (s.startSteps a).routes = s.routes ∧ (s.startSteps a).link = s.link
    ∧ (s.startSteps a).cmd = s.cmd ∧ (s.startSteps a).cells = s.cells ∧ (s.startSteps a).balance = s.balance
    ∧ (s.startSteps a).hold = s.hold ∧ (s.startSteps a).out.replies = s.out.replies
    ∧ (s.startSteps a).out.forward = s.out.forward ∧ (s.startSteps a).seqr.bankA = s.seqr.bankA
    ∧ (s.startSteps a).seqr.bankB = s.seqr.bankB ∧ (s.startSteps a).seqr.swap = s.seqr.swap
    ∧ (s.startSteps a).seqr.goto = s.seqr.goto ∧ (s.startSteps a).seqr.effective = s.seqr.effective
    ∧ (s.startSteps a).guard.table = s.guard.table ∧ (s.startSteps a).guard.limits = s.guard.limits
    ∧ (s.startSteps a).guard.hostReq = s.guard.hostReq ∧ (s.startSteps a).guard.linkMark = s.guard.linkMark
    ∧ (s.startSteps a).path.derate = s.path.derate ∧ (s.startSteps a).path.handOver = s.path.handOver
    ∧ (s.startSteps a).path.computation = s.path.computation ∧ (s.startSteps a).path.present = s.path.present
    ∧ (s.startSteps a).path.pendingOffer = s.path.pendingOffer
    ∧ (s.startSteps a).path.acceptedOffer = s.path.acceptedOffer
    ∧ (s.startSteps a).path.lastSetpoint = s.path.lastSetpoint ∧ (s.startSteps a).path.slot = s.path.slot
    ∧ (s.startSteps a).path.stage = s.path.stage ∧ (s.startSteps a).path.silent = s.path.silent
    ∧ (s.startSteps a).path.overdue = s.path.overdue := by
  and_intros <;> (unfold State.startSteps; simp)

/-- What `State.softReset` leaves as it was. -/
@[simp] theorem State.softReset_frame (s : State) :
    (s.softReset).pending = s.pending ∧ (s.softReset).rst = s.rst ∧ (s.softReset).fold = s.fold
    ∧ (s.softReset).link.badCount = s.link.badCount ∧ (s.softReset).link.seqU = s.link.seqU
    ∧ (s.softReset).cmd.late = s.cmd.late ∧ (s.softReset).cmd.overrun = s.cmd.overrun
    ∧ (s.softReset).cmd.discards = s.cmd.discards ∧ (s.softReset).cells.input = s.cells.input
    ∧ (s.softReset).cells.table = s.cells.table ∧ (s.softReset).cells.ocv = s.cells.ocv
    ∧ (s.softReset).cells.lastRound = s.cells.lastRound ∧ (s.softReset).seqr.bankA = s.seqr.bankA
    ∧ (s.softReset).seqr.bankB = s.seqr.bankB ∧ (s.softReset).seqr.designation = s.seqr.designation
    ∧ (s.softReset).guard.table = s.guard.table ∧ (s.softReset).guard.limits = s.guard.limits
    ∧ (s.softReset).guard.lock = s.guard.lock ∧ (s.softReset).guard.linkMark = s.guard.linkMark
    ∧ (s.softReset).path.derate = s.path.derate ∧ (s.softReset).path.present = s.path.present
    ∧ (s.softReset).path.acceptedOffer = s.path.acceptedOffer ∧ (s.softReset).path.stage = s.path.stage
    ∧ (s.softReset).path.silent = s.path.silent ∧ (s.softReset).balance.table = s.balance.table := by
  and_intros <;> (unfold State.softReset State.resetHold State.resetQueues State.resetRoutes State.resetCells State.resetSequencer State.resetGuard State.resetPath State.resetBalance; simp)

/-- What `State.sentU` leaves as it was. -/
@[simp] theorem State.sentU_frame (s : State) :
    (s.sentU).pending = s.pending ∧ (s.sentU).rst = s.rst ∧ (s.sentU).fold = s.fold ∧ (s.sentU).gate = s.gate
    ∧ (s.sentU).op = s.op ∧ (s.sentU).routes = s.routes ∧ (s.sentU).out = s.out ∧ (s.sentU).cells = s.cells
    ∧ (s.sentU).seqr = s.seqr ∧ (s.sentU).guard = s.guard ∧ (s.sentU).path = s.path ∧ (s.sentU).balance = s.balance
    ∧ (s.sentU).hold = s.hold ∧ (s.sentU).link.badCount = s.link.badCount ∧ (s.sentU).link.seqU = s.link.seqU
    ∧ (s.sentU).link.seqD = s.link.seqD ∧ (s.sentU).link.sendingD = s.link.sendingD
    ∧ (s.sentU).link.queueD = s.link.queueD ∧ (s.sentU).cmd.nodes = s.cmd.nodes ∧ (s.sentU).cmd.late = s.cmd.late
    ∧ (s.sentU).cmd.overrun = s.cmd.overrun ∧ (s.sentU).cmd.discards = s.cmd.discards := by
  and_intros <;> (unfold State.sentU; (repeat' split) <;> simp)

/-- What `State.accept` leaves as it was. -/
@[simp] theorem State.accept_frame (s : State) (d e : Address) (q : Byte) (p : List Byte) :
    (s.accept d e q p).pending = s.pending ∧ (s.accept d e q p).rst = s.rst ∧ (s.accept d e q p).fold = s.fold
    ∧ (s.accept d e q p).gate = s.gate ∧ (s.accept d e q p).op = s.op ∧ (s.accept d e q p).routes = s.routes
    ∧ (s.accept d e q p).link = s.link ∧ (s.accept d e q p).out = s.out ∧ (s.accept d e q p).cells = s.cells
    ∧ (s.accept d e q p).seqr = s.seqr ∧ (s.accept d e q p).guard = s.guard ∧ (s.accept d e q p).path = s.path
    ∧ (s.accept d e q p).balance = s.balance ∧ (s.accept d e q p).hold = s.hold
    ∧ (s.accept d e q p).cmd.nodes = s.cmd.nodes ∧ (s.accept d e q p).cmd.late = s.cmd.late := by
  and_intros <;> (unfold State.accept; (repeat' split) <;> simp)

/-- What `State.applySwap` leaves as it was. -/
@[simp] theorem State.applySwap_frame (s : State) (w : PendingSwap) (a : StepAddr) :
    (s.applySwap w a).pending = s.pending ∧ (s.applySwap w a).rst = s.rst ∧ (s.applySwap w a).fold = s.fold
    ∧ (s.applySwap w a).gate = s.gate ∧ (s.applySwap w a).op = s.op ∧ (s.applySwap w a).routes = s.routes
    ∧ (s.applySwap w a).link = s.link ∧ (s.applySwap w a).cells = s.cells ∧ (s.applySwap w a).guard = s.guard
    ∧ (s.applySwap w a).path = s.path ∧ (s.applySwap w a).balance = s.balance ∧ (s.applySwap w a).hold = s.hold
    ∧ (s.applySwap w a).out.alerts = s.out.alerts ∧ (s.applySwap w a).out.forward = s.out.forward
    ∧ (s.applySwap w a).cmd.nodes = s.cmd.nodes ∧ (s.applySwap w a).cmd.late = s.cmd.late
    ∧ (s.applySwap w a).cmd.overrun = s.cmd.overrun ∧ (s.applySwap w a).cmd.discards = s.cmd.discards
    ∧ (s.applySwap w a).seqr.bankA = s.seqr.bankA ∧ (s.applySwap w a).seqr.bankB = s.seqr.bankB
    ∧ (s.applySwap w a).seqr.effective = s.seqr.effective := by
  and_intros <;> (unfold State.applySwap; simp)

/-- What `State.dropSwap` leaves as it was. -/
@[simp] theorem State.dropSwap_frame (s : State) (w : PendingSwap) (c : Option (Fin 8)) (a : Option StepAddr) :
    (s.dropSwap w c a).pending = s.pending ∧ (s.dropSwap w c a).rst = s.rst ∧ (s.dropSwap w c a).fold = s.fold
    ∧ (s.dropSwap w c a).gate = s.gate ∧ (s.dropSwap w c a).op = s.op ∧ (s.dropSwap w c a).routes = s.routes
    ∧ (s.dropSwap w c a).link = s.link ∧ (s.dropSwap w c a).cells = s.cells ∧ (s.dropSwap w c a).guard = s.guard
    ∧ (s.dropSwap w c a).path = s.path ∧ (s.dropSwap w c a).balance = s.balance ∧ (s.dropSwap w c a).hold = s.hold
    ∧ (s.dropSwap w c a).out.alerts = s.out.alerts ∧ (s.dropSwap w c a).out.forward = s.out.forward
    ∧ (s.dropSwap w c a).cmd.nodes = s.cmd.nodes ∧ (s.dropSwap w c a).cmd.late = s.cmd.late
    ∧ (s.dropSwap w c a).cmd.overrun = s.cmd.overrun ∧ (s.dropSwap w c a).cmd.discards = s.cmd.discards
    ∧ (s.dropSwap w c a).seqr.bankA = s.seqr.bankA ∧ (s.dropSwap w c a).seqr.bankB = s.seqr.bankB
    ∧ (s.dropSwap w c a).seqr.designation = s.seqr.designation ∧ (s.dropSwap w c a).seqr.stored = s.seqr.stored
    ∧ (s.dropSwap w c a).seqr.t = s.seqr.t ∧ (s.dropSwap w c a).seqr.d = s.seqr.d
    ∧ (s.dropSwap w c a).seqr.firstEval = s.seqr.firstEval ∧ (s.dropSwap w c a).seqr.lastTest = s.seqr.lastTest
    ∧ (s.dropSwap w c a).seqr.dwell = s.seqr.dwell ∧ (s.dropSwap w c a).seqr.goto = s.seqr.goto
    ∧ (s.dropSwap w c a).seqr.effective = s.seqr.effective := by
  and_intros <;> rfl

/-- What `State.stageSwap` leaves as it was. -/
@[simp] theorem State.stageSwap_frame (s : State) :
    (s.stageSwap.1).pending = s.pending ∧ (s.stageSwap.1).rst = s.rst ∧ (s.stageSwap.1).fold = s.fold
    ∧ (s.stageSwap.1).gate = s.gate ∧ (s.stageSwap.1).op = s.op ∧ (s.stageSwap.1).routes = s.routes
    ∧ (s.stageSwap.1).link = s.link ∧ (s.stageSwap.1).cells = s.cells ∧ (s.stageSwap.1).guard = s.guard
    ∧ (s.stageSwap.1).path = s.path ∧ (s.stageSwap.1).balance = s.balance ∧ (s.stageSwap.1).hold = s.hold
    ∧ (s.stageSwap.1).out.alerts = s.out.alerts ∧ (s.stageSwap.1).out.forward = s.out.forward
    ∧ (s.stageSwap.1).cmd.nodes = s.cmd.nodes ∧ (s.stageSwap.1).cmd.late = s.cmd.late
    ∧ (s.stageSwap.1).cmd.overrun = s.cmd.overrun ∧ (s.stageSwap.1).cmd.discards = s.cmd.discards
    ∧ (s.stageSwap.1).seqr.bankA = s.seqr.bankA ∧ (s.stageSwap.1).seqr.bankB = s.seqr.bankB
    ∧ (s.stageSwap.1).seqr.effective = s.seqr.effective := by
  and_intros <;> (unfold State.stageSwap; dsimp only; (repeat' split) <;> simp)

/-- What `State.stageCauses` leaves as it was. -/
@[simp] theorem State.stageCauses_frame (s : State) (r : Summary) :
    ((s.stageCauses r)).pending = s.pending ∧ ((s.stageCauses r)).rst = s.rst ∧ ((s.stageCauses r)).fold = s.fold
    ∧ ((s.stageCauses r)).gate = s.gate ∧ ((s.stageCauses r)).op = s.op ∧ ((s.stageCauses r)).routes = s.routes
    ∧ ((s.stageCauses r)).link = s.link ∧ ((s.stageCauses r)).cmd = s.cmd ∧ ((s.stageCauses r)).cells = s.cells
    ∧ ((s.stageCauses r)).path = s.path ∧ ((s.stageCauses r)).balance = s.balance ∧ ((s.stageCauses r)).hold = s.hold
    ∧ ((s.stageCauses r)).out.replies = s.out.replies ∧ ((s.stageCauses r)).out.forward = s.out.forward
    ∧ ((s.stageCauses r)).seqr.bankA = s.seqr.bankA ∧ ((s.stageCauses r)).seqr.bankB = s.seqr.bankB
    ∧ ((s.stageCauses r)).seqr.designation = s.seqr.designation ∧ ((s.stageCauses r)).seqr.swap = s.seqr.swap
    ∧ ((s.stageCauses r)).seqr.stored = s.seqr.stored ∧ ((s.stageCauses r)).seqr.t = s.seqr.t
    ∧ ((s.stageCauses r)).seqr.d = s.seqr.d ∧ ((s.stageCauses r)).seqr.firstEval = s.seqr.firstEval
    ∧ ((s.stageCauses r)).seqr.lastTest = s.seqr.lastTest ∧ ((s.stageCauses r)).seqr.goto = s.seqr.goto
    ∧ ((s.stageCauses r)).seqr.effective = s.seqr.effective ∧ ((s.stageCauses r)).guard.table = s.guard.table
    ∧ ((s.stageCauses r)).guard.limits = s.guard.limits ∧ ((s.stageCauses r)).guard.lock = s.guard.lock
    ∧ ((s.stageCauses r)).guard.hostReq = s.guard.hostReq ∧ ((s.stageCauses r)).guard.linkMark = s.guard.linkMark := by
  and_intros <;> (unfold State.stageCauses; simp)

/-- What `State.announce` leaves as it was. -/
@[simp] theorem State.announce_frame (s : State) (r : Summary) (x : Option Entered) :
    ((s.announce r x)).pending = s.pending ∧ ((s.announce r x)).rst = s.rst ∧ ((s.announce r x)).fold = s.fold
    ∧ ((s.announce r x)).gate = s.gate ∧ ((s.announce r x)).op = s.op ∧ ((s.announce r x)).routes = s.routes
    ∧ ((s.announce r x)).link = s.link ∧ ((s.announce r x)).cmd = s.cmd ∧ ((s.announce r x)).cells = s.cells
    ∧ ((s.announce r x)).seqr = s.seqr ∧ ((s.announce r x)).guard = s.guard ∧ ((s.announce r x)).path = s.path
    ∧ ((s.announce r x)).balance = s.balance ∧ ((s.announce r x)).hold = s.hold
    ∧ ((s.announce r x)).out.replies = s.out.replies ∧ ((s.announce r x)).out.forward = s.out.forward := by
  and_intros <;> (unfold State.announce; (repeat' split) <;> simp)

def StepOutcome.state : StepOutcome → State
  | .ok s _ => s
  | .blocked s _ => s

@[simp] theorem StepOutcome.state_ok (s : State) (e : Option Entered) : (StepOutcome.ok s e).state = s := rfl

@[simp] theorem StepOutcome.state_blocked (s : State) (a : StepAddr) : (StepOutcome.blocked s a).state = s := rfl

@[simp] theorem StepOutcome.state_ite (p : Prop) [Decidable p] (x y : StepOutcome) :
    (if p then x else y).state = if p then x.state else y.state := by split <;> rfl

/-- What `State.takeMove` leaves as it was. -/
@[simp] theorem State.takeMove_frame (s : State) (a : StepAddr) (k : Nat) (m : Move) :
    ((s.takeMove a k m).state).pending = s.pending ∧ ((s.takeMove a k m).state).rst = s.rst
    ∧ ((s.takeMove a k m).state).fold = s.fold ∧ ((s.takeMove a k m).state).gate = s.gate
    ∧ ((s.takeMove a k m).state).op = s.op ∧ ((s.takeMove a k m).state).routes = s.routes
    ∧ ((s.takeMove a k m).state).link = s.link ∧ ((s.takeMove a k m).state).out = s.out
    ∧ ((s.takeMove a k m).state).cmd = s.cmd ∧ ((s.takeMove a k m).state).cells = s.cells
    ∧ ((s.takeMove a k m).state).guard = s.guard ∧ ((s.takeMove a k m).state).balance = s.balance
    ∧ ((s.takeMove a k m).state).hold = s.hold ∧ ((s.takeMove a k m).state).seqr.bankA = s.seqr.bankA
    ∧ ((s.takeMove a k m).state).seqr.bankB = s.seqr.bankB ∧ ((s.takeMove a k m).state).seqr.swap = s.seqr.swap
    ∧ ((s.takeMove a k m).state).seqr.goto = s.seqr.goto ∧ ((s.takeMove a k m).state).path.derate = s.path.derate
    ∧ ((s.takeMove a k m).state).path.handOver = s.path.handOver
    ∧ ((s.takeMove a k m).state).path.computation = s.path.computation
    ∧ ((s.takeMove a k m).state).path.present = s.path.present ∧ ((s.takeMove a k m).state).path.ship = s.path.ship
    ∧ ((s.takeMove a k m).state).path.lastSetpoint = s.path.lastSetpoint
    ∧ ((s.takeMove a k m).state).path.slot = s.path.slot ∧ ((s.takeMove a k m).state).path.stage = s.path.stage
    ∧ ((s.takeMove a k m).state).path.silent = s.path.silent
    ∧ ((s.takeMove a k m).state).path.overdue = s.path.overdue := by
  and_intros <;> (unfold State.takeMove; (repeat' split) <;> (try simp) <;> (repeat' split) <;> simp)

/-- What `State.stageStep` leaves as it was. -/
@[simp] theorem State.stageStep_frame (s : State) (r : Summary) :
    ((s.stageStep r).state).pending = s.pending ∧ ((s.stageStep r).state).rst = s.rst
    ∧ ((s.stageStep r).state).fold = s.fold ∧ ((s.stageStep r).state).gate = s.gate
    ∧ ((s.stageStep r).state).op = s.op ∧ ((s.stageStep r).state).routes = s.routes
    ∧ ((s.stageStep r).state).link = s.link ∧ ((s.stageStep r).state).out = s.out
    ∧ ((s.stageStep r).state).cmd = s.cmd ∧ ((s.stageStep r).state).cells = s.cells
    ∧ ((s.stageStep r).state).guard = s.guard ∧ ((s.stageStep r).state).balance = s.balance
    ∧ ((s.stageStep r).state).hold = s.hold ∧ ((s.stageStep r).state).seqr.bankA = s.seqr.bankA
    ∧ ((s.stageStep r).state).seqr.bankB = s.seqr.bankB ∧ ((s.stageStep r).state).seqr.swap = s.seqr.swap
    ∧ ((s.stageStep r).state).path.derate = s.path.derate ∧ ((s.stageStep r).state).path.handOver = s.path.handOver
    ∧ ((s.stageStep r).state).path.computation = s.path.computation
    ∧ ((s.stageStep r).state).path.present = s.path.present ∧ ((s.stageStep r).state).path.ship = s.path.ship
    ∧ ((s.stageStep r).state).path.lastSetpoint = s.path.lastSetpoint
    ∧ ((s.stageStep r).state).path.slot = s.path.slot ∧ ((s.stageStep r).state).path.stage = s.path.stage
    ∧ ((s.stageStep r).state).path.silent = s.path.silent
    ∧ ((s.stageStep r).state).path.overdue = s.path.overdue := by
  and_intros <;> (unfold State.stageStep State.applyGoto State.workStep; (repeat' split) <;> (try simp) <;> (repeat' split) <;> simp)

/-- A round evaluation after its first two stages (R46, R62). -/

def State.afterStage2 (s : State) (r : Summary) (bySwap : Option Entered) : State :=
  match s.stageStep r with
  | .blocked s3 target => s3.handCause (emptyStepCause target)
  | .ok s3 byStep =>
    match s3.resolve with
    | .noStep => s3
    | .empty a => s3.handCause (emptyStepCause a)
    | .found a e => State.handOver (State.announce { s3 with seqr.effective := some a } r (byStep.or bySwap)) r a e

theorem State.roundEvaluation_eq (s : State) (r : Summary) :
   s.roundEvaluation r = State.afterStage2 (s.stageSwap.1.stageCauses r) r s.stageSwap.2 := rfl

/-- What `State.afterStage2` leaves as it was. -/
theorem State.afterStage2_frame (s : State) (r : Summary) (b : Option Entered) :
    (s.afterStage2 r b).pending = s.pending ∧ (s.afterStage2 r b).rst = s.rst ∧ (s.afterStage2 r b).fold = s.fold
    ∧ (s.afterStage2 r b).routes = s.routes ∧ (s.afterStage2 r b).link.badCount = s.link.badCount
    ∧ (s.afterStage2 r b).link.seqU = s.link.seqU ∧ (s.afterStage2 r b).link.sendingU = s.link.sendingU
    ∧ (s.afterStage2 r b).out.forward = s.out.forward ∧ (s.afterStage2 r b).cmd.late = s.cmd.late
    ∧ (s.afterStage2 r b).cmd.overrun = s.cmd.overrun ∧ (s.afterStage2 r b).cmd.discards = s.cmd.discards
    ∧ (s.afterStage2 r b).cells = s.cells ∧ (s.afterStage2 r b).guard.table = s.guard.table
    ∧ (s.afterStage2 r b).guard.limits = s.guard.limits ∧ (s.afterStage2 r b).guard.lock = s.guard.lock
    ∧ (s.afterStage2 r b).guard.hostReq = s.guard.hostReq ∧ (s.afterStage2 r b).guard.linkMark = s.guard.linkMark
    ∧ (s.afterStage2 r b).seqr.bankA = s.seqr.bankA ∧ (s.afterStage2 r b).seqr.bankB = s.seqr.bankB
    ∧ (s.afterStage2 r b).path.derate = s.path.derate ∧ (s.afterStage2 r b).path.present = s.path.present
    ∧ (s.afterStage2 r b).path.ship = s.path.ship ∧ (s.afterStage2 r b).path.stage = s.path.stage
    ∧ (s.afterStage2 r b).path.silent = s.path.silent
    ∧ (s.afterStage2 r b).path.overdue = s.path.overdue ∧ (s.afterStage2 r b).balance.table = s.balance.table := by
  have h := State.stageStep_frame s r
  unfold State.afterStage2
  revert h
  cases s.stageStep r with
  | ok s3 x => 
    intro h; simp only [StepOutcome.state_ok] at h; dsimp only
    split <;> simp [h]
  | blocked s3 x => intro h; simp only [StepOutcome.state_blocked] at h; simp [h]

/-- What `State.roundEvaluation` leaves as it was. -/
@[simp] theorem State.roundEvaluation_frame (s : State) (r : Summary)  :
    (s.roundEvaluation r).pending = s.pending ∧ (s.roundEvaluation r).rst = s.rst
    ∧ (s.roundEvaluation r).fold = s.fold ∧ (s.roundEvaluation r).routes = s.routes
    ∧ (s.roundEvaluation r).link.badCount = s.link.badCount ∧ (s.roundEvaluation r).link.seqU = s.link.seqU
    ∧ (s.roundEvaluation r).link.sendingU = s.link.sendingU ∧ (s.roundEvaluation r).out.forward = s.out.forward
    ∧ (s.roundEvaluation r).cmd.late = s.cmd.late ∧ (s.roundEvaluation r).cmd.overrun = s.cmd.overrun
    ∧ (s.roundEvaluation r).cmd.discards = s.cmd.discards ∧ (s.roundEvaluation r).cells = s.cells
    ∧ (s.roundEvaluation r).guard.table = s.guard.table ∧ (s.roundEvaluation r).guard.limits = s.guard.limits
    ∧ (s.roundEvaluation r).guard.lock = s.guard.lock ∧ (s.roundEvaluation r).guard.hostReq = s.guard.hostReq
    ∧ (s.roundEvaluation r).guard.linkMark = s.guard.linkMark ∧ (s.roundEvaluation r).seqr.bankA = s.seqr.bankA
    ∧ (s.roundEvaluation r).seqr.bankB = s.seqr.bankB ∧ (s.roundEvaluation r).path.derate = s.path.derate
    ∧ (s.roundEvaluation r).path.present = s.path.present ∧ (s.roundEvaluation r).path.ship = s.path.ship
    ∧ (s.roundEvaluation r).path.stage = s.path.stage ∧ (s.roundEvaluation r).path.silent = s.path.silent
    ∧ (s.roundEvaluation r).path.overdue = s.path.overdue
    ∧ (s.roundEvaluation r).balance.table = s.balance.table := by
  rw [State.roundEvaluation_eq]; simp [State.afterStage2_frame]

/-- What `State.completeRound` leaves as it was. -/
@[simp] theorem State.completeRound_frame (s : State) (k l : Contribution) :
    (s.completeRound k l).pending = s.pending ∧ (s.completeRound k l).rst = s.rst
    ∧ (s.completeRound k l).fold = s.fold ∧ (s.completeRound k l).routes = s.routes
    ∧ (s.completeRound k l).link.badCount = s.link.badCount ∧ (s.completeRound k l).link.seqU = s.link.seqU
    ∧ (s.completeRound k l).link.sendingU = s.link.sendingU ∧ (s.completeRound k l).out.forward = s.out.forward
    ∧ (s.completeRound k l).cmd.late = s.cmd.late ∧ (s.completeRound k l).cmd.overrun = s.cmd.overrun
    ∧ (s.completeRound k l).cmd.discards = s.cmd.discards ∧ (s.completeRound k l).guard.table = s.guard.table
    ∧ (s.completeRound k l).guard.limits = s.guard.limits ∧ (s.completeRound k l).guard.lock = s.guard.lock
    ∧ (s.completeRound k l).guard.hostReq = s.guard.hostReq ∧ (s.completeRound k l).guard.linkMark = s.guard.linkMark
    ∧ (s.completeRound k l).seqr.bankA = s.seqr.bankA ∧ (s.completeRound k l).seqr.bankB = s.seqr.bankB
    ∧ (s.completeRound k l).path.derate = s.path.derate ∧ (s.completeRound k l).path.present = s.path.present
    ∧ (s.completeRound k l).path.ship = s.path.ship ∧ (s.completeRound k l).path.stage = s.path.stage
    ∧ (s.completeRound k l).path.silent = s.path.silent
    ∧ (s.completeRound k l).path.overdue = s.path.overdue ∧ (s.completeRound k l).balance.table = s.balance.table
    ∧ (s.completeRound k l).cells.table = s.cells.table ∧ (s.completeRound k l).cells.ocv = s.cells.ocv
    ∧ (s.completeRound k l).cells.input = s.cells.input := by
  and_intros <;> (unfold State.completeRound; dsimp only; split <;> simp [State.clearRound])

/-- What `State.contribute` leaves as it was. -/
@[simp] theorem State.contribute_frame (s : State) (c : CellId) (k : Contribution) :
    (s.contribute c k).pending = s.pending ∧ (s.contribute c k).rst = s.rst ∧ (s.contribute c k).fold = s.fold
    ∧ (s.contribute c k).routes = s.routes ∧ (s.contribute c k).link.badCount = s.link.badCount
    ∧ (s.contribute c k).link.seqU = s.link.seqU ∧ (s.contribute c k).link.sendingU = s.link.sendingU
    ∧ (s.contribute c k).out.forward = s.out.forward ∧ (s.contribute c k).cmd.late = s.cmd.late
    ∧ (s.contribute c k).cmd.overrun = s.cmd.overrun ∧ (s.contribute c k).cmd.discards = s.cmd.discards
    ∧ (s.contribute c k).guard.table = s.guard.table ∧ (s.contribute c k).guard.limits = s.guard.limits
    ∧ (s.contribute c k).guard.lock = s.guard.lock ∧ (s.contribute c k).guard.hostReq = s.guard.hostReq
    ∧ (s.contribute c k).guard.linkMark = s.guard.linkMark ∧ (s.contribute c k).seqr.bankA = s.seqr.bankA
    ∧ (s.contribute c k).seqr.bankB = s.seqr.bankB ∧ (s.contribute c k).path.derate = s.path.derate
    ∧ (s.contribute c k).path.present = s.path.present ∧ (s.contribute c k).path.ship = s.path.ship
    ∧ (s.contribute c k).path.stage = s.path.stage ∧ (s.contribute c k).path.silent = s.path.silent
    ∧ (s.contribute c k).path.overdue = s.path.overdue
    ∧ (s.contribute c k).balance.table = s.balance.table ∧ (s.contribute c k).cells.table = s.cells.table
    ∧ (s.contribute c k).cells.ocv = s.cells.ocv ∧ (s.contribute c k).cells.input = s.cells.input := by
  and_intros <;> (unfold State.contribute; dsimp only; split <;> simp)

/-- What `State.breaches` leaves as it was. -/
theorem State.breaches_frame (c : CellId) (q : Byte) (p : Bool) (l : List (HoldKind × Int)) (s : State) :
    (l.foldl (fun t b => t.breach c q p b) s).pending = s.pending
    ∧ (l.foldl (fun t b => t.breach c q p b) s).rst = s.rst ∧ (l.foldl (fun t b => t.breach c q p b) s).fold = s.fold
    ∧ (l.foldl (fun t b => t.breach c q p b) s).routes = s.routes
    ∧ (l.foldl (fun t b => t.breach c q p b) s).link.badCount = s.link.badCount
    ∧ (l.foldl (fun t b => t.breach c q p b) s).link.seqU = s.link.seqU
    ∧ (l.foldl (fun t b => t.breach c q p b) s).link.sendingU = s.link.sendingU
    ∧ (l.foldl (fun t b => t.breach c q p b) s).out.forward = s.out.forward
    ∧ (l.foldl (fun t b => t.breach c q p b) s).cmd.late = s.cmd.late
    ∧ (l.foldl (fun t b => t.breach c q p b) s).cmd.overrun = s.cmd.overrun
    ∧ (l.foldl (fun t b => t.breach c q p b) s).cmd.discards = s.cmd.discards
    ∧ (l.foldl (fun t b => t.breach c q p b) s).guard.table = s.guard.table
    ∧ (l.foldl (fun t b => t.breach c q p b) s).guard.limits = s.guard.limits
    ∧ (l.foldl (fun t b => t.breach c q p b) s).guard.lock = s.guard.lock
    ∧ (l.foldl (fun t b => t.breach c q p b) s).guard.hostReq = s.guard.hostReq
    ∧ (l.foldl (fun t b => t.breach c q p b) s).guard.linkMark = s.guard.linkMark
    ∧ (l.foldl (fun t b => t.breach c q p b) s).seqr.bankA = s.seqr.bankA
    ∧ (l.foldl (fun t b => t.breach c q p b) s).seqr.bankB = s.seqr.bankB
    ∧ (l.foldl (fun t b => t.breach c q p b) s).path.derate = s.path.derate
    ∧ (l.foldl (fun t b => t.breach c q p b) s).path.present = s.path.present
    ∧ (l.foldl (fun t b => t.breach c q p b) s).path.ship = s.path.ship
    ∧ (l.foldl (fun t b => t.breach c q p b) s).path.stage = s.path.stage
    ∧ (l.foldl (fun t b => t.breach c q p b) s).path.silent = s.path.silent
    ∧ (l.foldl (fun t b => t.breach c q p b) s).path.overdue = s.path.overdue
    ∧ (l.foldl (fun t b => t.breach c q p b) s).balance.table = s.balance.table
    ∧ (l.foldl (fun t b => t.breach c q p b) s).cells.table = s.cells.table
    ∧ (l.foldl (fun t b => t.breach c q p b) s).cells.ocv = s.cells.ocv
    ∧ (l.foldl (fun t b => t.breach c q p b) s).cells.input = s.cells.input := by
  induction l generalizing s with
  | nil => simp
  | cons a l ih => rw [List.foldl_cons]; have := ih (s.breach c q p a); simpa using this

/-- What `State.takeSample` leaves as it was. -/
@[simp] theorem State.takeSample_frame (s : State) (c : CellId) (f : SampleFrame) (p : Bool) :
    (s.takeSample c f p).pending = s.pending ∧ (s.takeSample c f p).rst = s.rst ∧ (s.takeSample c f p).fold = s.fold
    ∧ (s.takeSample c f p).routes = s.routes ∧ (s.takeSample c f p).link.badCount = s.link.badCount
    ∧ (s.takeSample c f p).link.seqU = s.link.seqU ∧ (s.takeSample c f p).link.sendingU = s.link.sendingU
    ∧ (s.takeSample c f p).out.forward = s.out.forward ∧ (s.takeSample c f p).cmd.late = s.cmd.late
    ∧ (s.takeSample c f p).cmd.overrun = s.cmd.overrun ∧ (s.takeSample c f p).cmd.discards = s.cmd.discards
    ∧ (s.takeSample c f p).guard.table = s.guard.table ∧ (s.takeSample c f p).guard.limits = s.guard.limits
    ∧ (s.takeSample c f p).guard.lock = s.guard.lock ∧ (s.takeSample c f p).guard.hostReq = s.guard.hostReq
    ∧ (s.takeSample c f p).guard.linkMark = s.guard.linkMark ∧ (s.takeSample c f p).seqr.bankA = s.seqr.bankA
    ∧ (s.takeSample c f p).seqr.bankB = s.seqr.bankB ∧ (s.takeSample c f p).path.derate = s.path.derate
    ∧ (s.takeSample c f p).path.present = s.path.present ∧ (s.takeSample c f p).path.ship = s.path.ship
    ∧ (s.takeSample c f p).path.stage = s.path.stage ∧ (s.takeSample c f p).path.silent = s.path.silent
    ∧ (s.takeSample c f p).path.overdue = s.path.overdue
    ∧ (s.takeSample c f p).balance.table = s.balance.table ∧ (s.takeSample c f p).cells.table = s.cells.table
    ∧ (s.takeSample c f p).cells.ocv = s.cells.ocv ∧ (s.takeSample c f p).cells.input = s.cells.input := by
  and_intros <;> (unfold State.takeSample; dsimp only; (repeat' split) <;> simp [State.breaches_frame])

end Sys2Proof.Machine
end

