-- ==== Sys2Proof/Laws/Command.lean ====
section
/-! SUPPORT. The spec lemmas of the command unit and the arbiter: what acceptance, issue and the end of an event do, said once
for every command to the hub. -/

namespace Sys2Proof.Machine

/-! ## Words and payloads -/

/-- A word is read back from its two bytes. -/
@[simp] theorem wordOf_bytes (w : Word) : wordOf (hiByte w) (loByte w) = w := by
  unfold wordOf hiByte loByte
  exact (BitVec.extractLsb'_append_extractLsb'_eq_extractLsb' (by decide)).trans BitVec.extractLsb'_eq_self

/-! ## The head of the command queue -/

theorem head_of_held {s t : State} (h : t.cmd.held = s.cmd.held) : t.head = s.head := by simp [State.head, h]

theorem drain_none (n : Nat) {s : State} (h : s.head = none) : s.drain n = s := by
  cases n <;> simp [State.drain, h]

@[simp] theorem arbitrate_held (s : State) : s.arbitrate.cmd.held = s.cmd.held := by
  unfold State.arbitrate
  (repeat' split) <;> rfl

@[simp] theorem arbitrate_head (s : State) : s.arbitrate.head = s.head := head_of_held (arbitrate_held s)

/-- With no command waiting, the end of an event is the arbiter's. -/
theorem settle_quiet {s : State} (h : s.head = none) : s.settle = s.arbitrate :=
  drain_none _ ((arbitrate_head s).trans h)

/-- A free place is none of those taken (log 15). -/
theorem freePlace_free {s : State} (h : s.cmd.held.length < 4) : ∀ c ∈ s.cmd.held, c.place ≠ s.freePlace := by
  intro c hc he
  unfold State.freePlace State.placeTaken at he
  generalize s.cmd.held = l at *
  match l, h with
  | [], _ => simp at hc
  | [a], _ =>
    simp [List.find?] at *
    subst hc
    (repeat' split at he) <;> simp_all
  | [a, b], _ =>
    simp [List.find?] at *
    rcases hc with rfl | rfl <;> (repeat' split at he) <;> simp_all
  | [a, b, d], _ =>
    simp [List.find?] at *
    rcases hc with rfl | rfl | rfl <;> (repeat' split at he) <;> simp_all <;> omega

/-- A change of the held command at a place leaves the commands of other places. -/
theorem map_ne {l : List HeldCommand} {p : Nat} {f : HeldCommand → HeldCommand} (h : ∀ c ∈ l, c.place ≠ p) :
    (l.map fun c => if c.place = p then f c else c) = l := by
  induction l with
  | nil => rfl
  | cons a l ih =>
    simp only [List.mem_cons, forall_eq_or_imp] at h
    simp only [List.map_cons, h.1, if_false, ih h.2]

/-! ## The arbiter -/

/-- The arbiter's work on the ports, the output queues and the command unit alone. -/
def portWork (l : LinkUnit) (o : OutputQueues) (c : CommandUnit) : LinkUnit × OutputQueues × CommandUnit :=
  let t := State.arbitrate { State.reset with link := l, out := o, cmd := c }
  (t.link, t.out, t.cmd)

/-- The arbiter reads and writes the ports, the output queues and the command unit, and nothing else. -/
theorem arbitrate_eq (s : State) :
    s.arbitrate
      = { s with
          link := (portWork s.link s.out s.cmd).1, out := (portWork s.link s.out s.cmd).2.1,
          cmd := (portWork s.link s.out s.cmd).2.2 } := by
  unfold portWork State.arbitrate
  dsimp only
  (repeat' split) <;> rfl

theorem arbitrate_withHeld (s : State) (l : List HeldCommand) :
    (s.withHeld l).arbitrate = s.arbitrate.withHeld l := by
  unfold State.arbitrate State.withHeld
  dsimp only
  (repeat' split) <;> rfl

/-! ## A COMMAND that arrives in a ready state -/

/-- A COMMAND as the queue holds it on arrival. -/
def State.arriving (s : State) (dest src : Address) (seq : Byte) (payload : List Byte) : HeldCommand :=
  ⟨s.freePlace, dest, src, seq, payload, .waiting, none⟩

theorem ready_parts {s : State} (h : s.ready = true) : s.rst = false ∧ s.head = none ∧ s.cmd.held.length < 4 := by
  unfold State.ready State.quiet at h
  rw [Bool.and_eq_true, Bool.and_eq_true, decide_eq_true_eq] at h
  exact ⟨by simpa using h.1.1, by simpa using h.1.2, h.2⟩

/-- What a command waits on is not changed by the arbiter or by the queue. -/
theorem blockedOn_arbitrate (s : State) (l : List HeldCommand) (c : HeldCommand) :
    (s.arbitrate.withHeld l).blockedOn c = s.blockedOn c := by
  unfold State.arbitrate
  (repeat' split) <;> rfl

/-- The queue of a ready state with a command behind it changes at that command alone. -/
theorem updateHeld_last {s t : State} {c : HeldCommand} {f : HeldCommand → HeldCommand} (h : s.ready = true)
    (hp : c.place = s.freePlace) (hheld : t.cmd.held = s.cmd.held ++ [c]) :
    t.updateHeld s.freePlace f = t.withHeld (s.cmd.held ++ [f c]) := by
  simp only [State.updateHeld, hheld, List.map_append, map_ne (freePlace_free (ready_parts h).2.2), List.map_cons, hp,
    if_true, List.map_nil]

/-- A COMMAND that arrives in a ready state and waits on nothing issues at once, and the event ends with the arbiter. -/
theorem command_ready {s : State} {dest src : Address} {seq : Byte} {payload : List Byte} (h : s.ready = true)
    (hr : isReset dest payload = false) (hw : s.blockedOn (s.arriving dest src seq payload) = none) :
    s.event (fun t => t.arriveCommand dest src seq payload)
      = .next (State.drain s.cmd.held.length (State.arbitrate
          ((s.arbitrate.withHeld (s.cmd.held ++ [s.arriving dest src seq payload])).issue
            (s.arriving dest src seq payload)))) := by
  obtain ⟨hrst, hhead, hlen⟩ := ready_parts h
  have hh : State.head (s.arbitrate.withHeld (s.cmd.held ++ [s.arriving dest src seq payload]))
      = some (s.arriving dest src seq payload) := by
    simp only [State.head, State.withHeld] at hhead ⊢
    simp only [List.find?_append, hhead]
    rfl
  have ha : s.accept dest src seq payload = s.withHeld (s.cmd.held ++ [s.arriving dest src seq payload]) := by
    simp [State.accept, hlen, State.arriving, Config.heldMax]
  have hl : (s.withHeld (s.cmd.held ++ [s.arriving dest src seq payload])).cmd.held.length = s.cmd.held.length + 1 := by
    simp [State.withHeld]
  have hb := (blockedOn_arbitrate s (s.cmd.held ++ [s.arriving dest src seq payload])
    (s.arriving dest src seq payload)).trans hw
  simp only [State.event, hrst, Bool.false_eq_true, if_false, State.arriveCommand, hr, ha, State.settle, hl,
    arbitrate_withHeld, State.drain, hh, hb]

/-- Answering a command that stands last in the queue of a ready state: the event ends with its reply placed. `t` is the
state as changed by what the command did, before it was held. -/
theorem drain_answer {s t : State} {c c' : HeldCommand} {status : Status} {results : List Field} (n : Nat)
    (h : s.ready = true) (hheld : t.cmd.held = s.cmd.held) (hp : c.place = s.freePlace) (hp' : c'.place = s.freePlace)
    (hs : c'.seq = c.seq) :
    State.drain n (State.arbitrate ((t.arbitrate.withHeld (s.cmd.held ++ [c])).answer c' status results))
      = t.replyTo c.replied status results := by
  have hhead := (ready_parts h).2.1
  have e : (t.arbitrate.withHeld (s.cmd.held ++ [c])).answer c' status results
      = (t.arbitrate.withHeld (t.cmd.held ++ [c.replied])).withReply ⟨some c.place, status, c.seq, results⟩ := by
    unfold State.answer State.answerAt
    rw [hp', hs, updateHeld_last h hp rfl, hheld, hp]
    rfl
  rw [e, drain_none]
  · simp only [State.replyTo]
    rfl
  · rw [arbitrate_head]
    have e5 : ∀ (u : State) r, (u.withReply r).head = u.head := fun _ _ => rfl
    rw [e5]
    simp only [State.head, State.withHeld, hheld] at hhead ⊢
    simp [List.find?_append, hhead, HeldCommand.replied]

/-! ## A command to the hub -/

/-- The state in which a command to the hub acts: it is held as ISSUED. -/
def State.entered (s : State) (seq : Byte) (k : HubCommand) : State :=
  s.arbitrate.withHeld (s.cmd.held ++ [s.heldAs seq k .issued])

/-- A command to the hub that arrives in a ready state and waits on nothing acts at once, and the event ends with the
arbiter. -/
theorem hubCommand_ready {s : State} {seq : Byte} (h : s.ready = true) {k : HubCommand}
    (hp : parseCommand (encodeCommand k) = k) (hr : isReset hubAddress (encodeCommand k) = false)
    (hw : s.blockedOn (s.heldAs seq k .waiting) = none) :
    s.hubCommand seq k
      = .next (State.drain s.cmd.held.length (State.arbitrate ((s.entered seq k).act (s.heldAs seq k .waiting) k))) := by
  have hi : (s.arbitrate.withHeld (s.cmd.held ++ [s.heldAs seq k .waiting])).issue (s.heldAs seq k .waiting)
      = (s.entered seq k).act (s.heldAs seq k .waiting) k := by
    have hd : (s.heldAs seq k .waiting).dest = hubAddress := rfl
    have hpay : (s.heldAs seq k .waiting).payload = encodeCommand k := rfl
    have hpl : (s.heldAs seq k .waiting).place = s.freePlace := rfl
    have e := updateHeld_last (t := s.arbitrate.withHeld (s.cmd.held ++ [s.heldAs seq k .waiting]))
      (f := HeldCommand.issued) h hpl rfl
    simp only [State.issue, hd, if_true, hpay, hp, hpl, e]
    rfl
  exact (command_ready h hr hw).trans (by rw [← hi]; rfl)

/-- A command to the hub that changes its blocks from `s` to `t` and answers leaves `t` with the command replied. -/
theorem hubCommand_answers {s t : State} {seq : Byte} (h : s.ready = true) {k : HubCommand} {status : Status}
    {results : List Field} (hp : parseCommand (encodeCommand k) = k)
    (hr : isReset hubAddress (encodeCommand k) = false) (hw : s.blockedOn (s.heldAs seq k .waiting) = none)
    (hheld : t.cmd.held = s.cmd.held)
    (ha : (s.entered seq k).act (s.heldAs seq k .waiting) k
      = (t.entered seq k).answer (s.heldAs seq k .waiting) status results) :
    s.hubCommand seq k = .next (t.replied seq k status results) := by
  have hf : t.freePlace = s.freePlace := by simp [State.freePlace, State.placeTaken, hheld]
  have e : t.entered seq k = t.arbitrate.withHeld (s.cmd.held ++ [s.heldAs seq k .issued]) := by
    simp [State.entered, State.heldAs, hf, hheld]
  have key := drain_answer (c := s.heldAs seq k .issued) (c' := s.heldAs seq k .waiting) (status := status)
    (results := results) s.cmd.held.length h hheld rfl rfl rfl
  rw [hubCommand_ready h hp hr hw, ha, e, key]
  simp only [State.replied, State.heldAs, hf]
  rfl

/-- What holding a command and the arbiter leave as it was: every block but the ports, the output queues and the command
unit. -/
@[simp] theorem entered_frame (s : State) (seq : Byte) (k : HubCommand) :
    (s.entered seq k).pending = s.pending ∧ (s.entered seq k).rst = s.rst ∧ (s.entered seq k).fold = s.fold
    ∧ (s.entered seq k).gate = s.gate ∧ (s.entered seq k).op = s.op ∧ (s.entered seq k).routes = s.routes
    ∧ (s.entered seq k).cells = s.cells ∧ (s.entered seq k).seqr = s.seqr ∧ (s.entered seq k).guard = s.guard
    ∧ (s.entered seq k).path = s.path ∧ (s.entered seq k).balance = s.balance ∧ (s.entered seq k).hold = s.hold
    ∧ (s.entered seq k).cmd.nodes = s.cmd.nodes ∧ (s.entered seq k).cmd.late = s.cmd.late
    ∧ (s.entered seq k).link.sendingD = s.link.sendingD ∧ (s.entered seq k).link.queueD = s.link.queueD
    ∧ (s.entered seq k).link.seqD = s.link.seqD := by
  unfold State.entered
  simp

end Sys2Proof.Machine
end

