-- ==== Sys2Proof/Laws/Setpoint.lean ====
section
/-! SUPPORT. What a setpoint called for comes to: the spec lemmas of the transport (R101, R107, R108, R113, R115). -/

namespace Sys2Proof.Machine

/-- A frame handed to port D is on its way there. -/
theorem mem_handD (s : State) (f : Frame) : f ∈ (s.handD f).link.portD := by
  unfold State.handD LinkUnit.portD
  split <;> simp_all

/-- A SETPOINT handed to the transport is sent with NODE4 free, and stands in the slot otherwise (R108, R115). -/
theorem transport_called (s : State) (p : Setpoint) (h : p.composedIn = s.op) : s.calledFor (s.transport p) p := by
  refine ⟨fun hn => ?_, fun hn => ?_⟩
  · have ht : s.transport p = s.sendSetpoint p := by simp [State.transport, State.reserved, hn]
    rw [ht]
    refine ⟨by simp [State.sendSetpoint], by simp [State.sendSetpoint, h], s.link.seqD, rfl, rfl, ?_⟩
    exact mem_handD _ _
  · have ht : s.transport p = { s with path.slot := some p } := by simp [State.transport, State.reserved, hn]
    simp [ht]

/-- Outside RUN a setpoint called for is the state's zero setpoint (R107). -/
theorem callSetpoint_idle (s : State) (h : s.op ≠ .run) :
    s.calledFor s.callSetpoint (zeroSetpoint s.op s.path.ship s.path.present) := by
  have ht : s.callSetpoint = s.transport s.idleSetpoint := by simp [State.callSetpoint, h]
  have hp : zeroSetpoint s.op s.path.ship s.path.present = s.idleSetpoint := by
    simp only [State.idleSetpoint]
  rw [ht, hp]
  exact transport_called s _ rfl

/-- In RUN it is the SETPOINT of a computation, which is recorded (R101, R107, R113). -/
theorem callSetpoint_run (s : State) (h : s.op = .run) : s.computedFor s.callSetpoint s.compute := by
  let k := s.compute
  let u : State := { s with path.computation := some k }
  have ht : s.callSetpoint = u.transport (u.runSetpoint k) := by simp [State.callSetpoint, h, u, k]
  have hb : (u.transport (u.runSetpoint k)).balance = s.balance := by simp [u]
  have hc : (u.transport (u.runSetpoint k)).path.computation = some k := by simp [u]
  refine ⟨ht ▸ hc, ?_⟩
  rw [ht, hb]
  exact transport_called u (u.runSetpoint k) (by simp [State.runSetpoint, u, h])

end Sys2Proof.Machine
end

