-- ==== Sys2Proof/Tests/Slice0.lean ====
section
/-! SUPPORT. The model's own tests: ill-formed commands refused, the manual's worked figures on single steps, frames read from
their bytes, and for each statement with hypotheses a state that meets them. -/

namespace Sys2Proof.Tests

open Sys2Proof.Machine

/-! ## Small states -/

/-- What a next state shows. -/
def seen {α : Type} (o : Host.Outcome State Fault Refusal) (f : State → α) : Option α :=
  match o with
  | .next t => some (f t)
  | .fault _ => none
  | .refused _ => none

/-- Power-on values with RST released. -/
def awake : State := { State.reset with rst := false }

/-- A round summary with the voltages, temperatures, pack current and SOCs given. -/
def roundOf (v1 v2 t1 t2 pack : Int) (soc1 soc2 : Nat) : Summary :=
  ⟨v1, v2, t1, t2, pack, soc1, soc2, false, true, 0⟩

/-- The constant-current step of 03, "Worked sequence: from constant current to done". -/
def constantCurrent : StepEntry :=
  ⟨4000, 4450, 100, .charge, .closed, .any, none, .vhiGe, 4400, .sticky, .advance, false⟩

/-- The taper step of the same profile. -/
def taper : StepEntry := { constantCurrent with selector := .ipackLe, threshold := 250, flagRule := .track }

/-- The top-off step of the same profile. -/
def topOff : StepEntry :=
  ⟨1000, 4450, 100, .charge, .untilD, .none, some 600, .none, 0, .hold, .onD 2 0, true⟩

/-- The done step of the same profile. -/
def finished : StepEntry :=
  ⟨0, 4450, 100, .adapter, .opened, .none, none, .vloLt, 4250, .track, .onTRow 1, true⟩

/-- An override-row step. -/
def overrideStep : StepEntry :=
  ⟨1500, 4450, 100, .charge, .closed, .none, some 1, .none, 0, .hold, .stay, false⟩

/-- A bank with the profile's steps and a filled override row. -/
def profile : Bank :=
  let row := [0, 1, 2, 3, 4, 5, 6, 7].foldl (fun b c => setBankEntry b overrideRow c (some overrideStep)) emptyBank
  let steps : List (Fin 12 × Fin 8 × StepEntry) :=
    [(0, 0, constantCurrent), (1, 0, constantCurrent), (1, 1, taper), (1, 2, topOff), (2, 0, finished)]
  steps.foldl (fun b x => setBankEntry b x.1 x.2.1 (some x.2.2)) row

/-- The derate table of R91's table of examples. -/
def derates : Vector Point 8 :=
  #v[⟨0, 0⟩, ⟨100, 50⟩, ⟨150, 100⟩, ⟨350, 100⟩, ⟨400, 80⟩, ⟨450, 50⟩, ⟨500, 20⟩, ⟨550, 0⟩]

/-- An OCV table with the neighbouring points of R10's example. -/
def ocvs : Vector Point 16 :=
  #v[⟨3000, 0⟩, ⟨3100, 10⟩, ⟨3200, 20⟩, ⟨3300, 40⟩, ⟨3400, 60⟩, ⟨3500, 100⟩, ⟨3600, 200⟩, ⟨3700, 300⟩, ⟨3800, 420⟩,
     ⟨3900, 560⟩, ⟨4000, 650⟩, ⟨4100, 740⟩, ⟨4200, 830⟩, ⟨4300, 910⟩, ⟨4400, 970⟩, ⟨4450, 1000⟩]

/-- A FRESH, charge-known cell record. -/
def cellOn (v t : Int) (q soc : Nat) (seq : Byte) : CellRecord :=
  { cellRecordReset with
    monitor := .fresh, staleness := some 160, lastSeq := some seq, voltage := some v, temperature := some t,
    charge := q, soc := soc, known := true }

/-- The cells of 01, "Worked sequence: one round assembled". -/
def cellsOn : CellUnit :=
  { State.reset.cells with
    records := ⟨cellOn 4011 305 40500000000 500 39, cellOn 4003 298 38700000000 500 16⟩
    table := #v[2250, 2150, 50, 900, 30]
    ocv := ⟨ocvs, true⟩ }

/-- CONFIG with every table and bank A loaded. -/
def loaded : State :=
  { awake with
    cells := cellsOn
    seqr := { State.reset.seqr with bankA := profile, bankB := profile }
    path := { State.reset.path with derate := ⟨derates, true⟩, present := true } }

/-- RUN in (A, 1, 0), with the last SETPOINT sent CHARGE at 1200 mA and answered. -/
def running : State :=
  { loaded with
    op := .run
    gate := true
    guard := { State.reset.guard with lock := true }
    seqr := { loaded.seqr with designation := some .a, stored := some ⟨.a, 1, 0⟩, effective := some ⟨.a, 1, 0⟩ }
    path := { loaded.path with lastSetpoint := some ⟨⟨.charge, 1200, .off, 0, .run⟩, 9⟩ } }

/-- That run with a round behind it. -/
def measured : State := { running with cells := { cellsOn with lastRound := some (roundOf 4372 4341 312 386 1200 800 800) } }

/-- HELD from that run, with a hold record of HOLD. -/
def heldHub : State :=
  { running with
    op := .held, gate := false
    hold := ⟨some { running.snapshot (hostCause none) false with stored := running.seqr.stored }, none⟩ }

/-- A held command at a place. -/
def heldAt (place : Nat) (seq : Byte) (payload : List Byte) (st : HeldState) : HeldCommand :=
  ⟨place, 0, 15, seq, payload, st, none⟩

/-- A frame being sent on port U that answers no command. -/
def busyU : Option UpFrame := some ⟨⟨15, 0, 7, 0, []⟩, none⟩

/-- `s` with port U sending, so that what is queued stays to be seen. -/
def holding (s : State) : State := { s with link := { s.link with sendingU := busyU } }

/-- The last reply queued: its status and results. -/
def lastReply (t : State) : Option (Status × List Field) := t.out.replies.getLast?.map fun r => (r.status, r.results)

/-! ## Well-formedness and the decoder -/

theorem test_long_command_ill_formed : (Instr.command 0 15 1 (List.replicate 25 0)).wellFormed = false := by decide

theorem test_reset_is_no_other_command :
    (Instr.command 0 15 1 [21, 5]).wellFormed = false ∧ (Instr.command 1 15 1 [21]).wellFormed = true := by decide

theorem test_known_name_is_not_unknown :
    (Instr.unknownCommand 0 15 1 [6]).wellFormed = false ∧ (Instr.unknownCommand 0 15 1 [22]).wellFormed = true
      ∧ (Instr.unknownCommand 0 15 1 []).wellFormed = true ∧ (Instr.unknownCommand 4 15 1 [6]).wellFormed = false
      ∧ (Instr.unknownCommand 5 15 1 [6]).wellFormed = true := by decide

theorem test_long_unknown_ill_formed : (Instr.unknownCommand 5 15 1 (List.replicate 25 0)).wellFormed = false := by decide

theorem test_long_node_reply_ill_formed :
    (Instr.nodeReply .m1 0 1 (List.replicate 25 0)).wellFormed = false
      ∧ (Instr.nodeReply .m1 0 1 (List.replicate 24 0)).wellFormed = true := by decide

theorem test_long_node_command_ill_formed :
    (Instr.nodeCommand .s4 15 1 (List.replicate 25 0)).wellFormed = false := by decide

theorem test_no_word_spells_a_command : decodeTableWord 8 21 = none := by decide

set_option maxRecDepth 20000

/-! ## Frames from their bytes (10, "Layouts") -/

/-- The CRC's check value for the bytes "123456789": the polynomial of R181 worked by hand over the nine bytes is the
published CRC-8 with polynomial 0x2F and initial value 0xFF, without its final inversion. -/
theorem test_crc_of_digits : crc [0x31, 0x32, 0x33, 0x34, 0x35, 0x36, 0x37, 0x38, 0x39] = 0x20#8 := by decide

/-- LOCK (name 6) in a COMMAND (kind 6) from 15 to 0, sequence 9, payload length 1. -/
theorem test_lock_frame_read :
    classifyU ⟨[0x0F, 6, 9, 1, 6, crc [0x0F, 6, 9, 1, 6]], false⟩ = .command 0 15 9 [6]
      ∧ parseCommand [6] = .lock := by decide

theorem test_reset_read_at_arrival :
    classifyU ⟨[0x0F, 6, 9, 2, 21, 7, crc [0x0F, 6, 9, 2, 21, 7]], false⟩ = .reset 9 := by decide

/-- A SAMPLE (kind 1) from M1: 4012 mV = 0x0FAC, 2000 mA = 0x07D0, 305 = 0x0131, interval 200, balance 0, status 0. -/
theorem test_sample_frame_read :
    let bytes : List Byte := [0x01, 1, 40, 11, 0x0F, 0xAC, 0x07, 0xD0, 0x01, 0x31, 0, 200, 0, 0, 0]
    classifyD ⟨bytes ++ [crc bytes], false⟩ true = .sample .one ⟨0, 40, 4012, 2000, 305, 200, 0, 0⟩ true := by decide

/-- A SAMPLE whose payload length is not 11, and an INPUT from M1, fit no route entry (R174). -/
theorem test_unfit_frames :
    (let b : List Byte := [0x01, 1, 40, 1, 7]; classifyD ⟨b ++ [crc b], false⟩ false) = .unfitFrame
      ∧ (let b : List Byte := [0x01, 2, 40, 10, 0, 0, 0, 0, 0, 0, 0, 0, 0, 0]
         classifyD ⟨b ++ [crc b], false⟩ false) = .unfitFrame := by decide

theorem test_bad_frames :
    classifyU ⟨[0x0F, 6, 9, 1, 6, crc [0x0F, 6, 9, 1, 6]], true⟩ = .portUBadFrame
      ∧ classifyU ⟨[0x0F, 6, 9, 2, 6, crc [0x0F, 6, 9, 2, 6]], false⟩ = .portUBadFrame
      ∧ classifyD ⟨[0x01, 1, 40], false⟩ false = .portDBadFrame := by decide

/-- Commands by their layouts in R183: START of (A, 1, 0), LOAD_TABLE of guard entry 0 with 4480 = 0x1180, HOLD with the code
258, BALANCE SHUTTLE from cell 2 with an amount. -/
theorem test_command_layouts :
    parseCommand [7, 0, 1, 0] = .start 0 1 0 ∧ parseCommand [4, 3, 0, 0x11, 0x80] = .loadGuard 0 4480
      ∧ parseCommand [12, 1, 2] = .hold (some 258) ∧ parseCommand [18, 0, 2, 0xC3, 0x50, 3] = .shuttle 2 (some (50000, 3))
      ∧ parseCommand [7, 0, 1] = .badArguments ∧ parseCommand [21] = .unknown := by decide

/-! ## Arithmetic: the manual's worked figures -/

/-- R10's example: 3873 mV between (3800, 420) and (3900, 560) reads 522; the ends and an inner point. -/
theorem test_ocv_interpolation :
    interpolate ocvs.toList 3873 = 522 ∧ interpolate ocvs.toList 3900 = 560 ∧ interpolate ocvs.toList 2000 = 0
      ∧ interpolate ocvs.toList 4800 = 1000 := by decide

/-- "Worked figures for the scaled charge" of 01, the transfer's 41339 at 15 of 07, and the carry to 32768. -/
theorem test_scaled_charge :
    scaled 81000000000 = (38624, 21) ∧ scaled 400000 = (50000, 3) ∧ scaled 0 = (0, 0)
      ∧ scaled 1354600000 = (41339, 15) ∧ scaled 131071 = (32768, 2) := by decide

/-- R91's table of factors. -/
theorem test_derate_factors :
    [-50, 120, 350, 386, 551].map (interpolate derates.toList) = [0, 70, 100, 85, 0] := by decide

/-- R92's figures. -/
theorem test_taper_terms : [4350, 4372, 4449, 4450].map (taperTerm 4000 4450 100) = [4000, 3120, 40, 0] := by decide

/-- The state of 05, "Worked case: one round, stage by stage". -/
def workedCase (offer : Option Offer) (last : Int) : State :=
  { running with
    cells := { cellsOn with input := { inputRecordReset with vsys := 8713, isys := 1150 } }
    path :=
      { running.path with
        acceptedOffer := offer
        lastSetpoint := some ⟨⟨.charge, last, .off, 0, .run⟩, 9⟩
        handOver :=
          some
            { summary := some (roundOf 4372 4341 312 386 1200 800 800), addr := ⟨.a, 1, 0⟩, limit := 4000,
              ceiling := 4450, band := 100, path := .charge, gate := .closed, column := none, t := false, d := false } } }

theorem test_worked_case :
    let k := (workedCase (some ⟨9000, 3000, 2⟩) 1200).compute
    k.budget = some ⟨27000, 24300, 10019, 14281⟩ ∧ k.figures = some ⟨85, 3400, 3120, 1639, 1625, .input⟩
      ∧ k.iSet = 1625 ∧ k.mode = .charge ∧ k.slewLimited = false ∧ k.source = .offer := by decide

theorem test_worked_case_slewed :
    let k := (workedCase (some ⟨9000, 3000, 2⟩) 500).compute
    k.iSet = 1000 ∧ k.slewLimited = true := by decide

theorem test_worked_case_basic :
    let k := (workedCase none 1200).compute
    k.source = .basic ∧ k.budget = some ⟨2500, 2250, 10019, -7769⟩ ∧ k.iSet = 0 ∧ k.mode = .supplement := by decide

/-- 06's worked sequence: BY_OFFER(4) with a pending offer of class 2 targets column 6. -/
theorem test_by_offer : moveOf (.byOffer 4) ⟨.a, 3, 0⟩ false false (some ⟨9000, 3000, 2⟩) = .to 3 6 true := by decide

/-- R25: a limit of 4010 is stored as 4000 and 24 as 0. -/
theorem test_limit_rounding : roundDown25 4010 = 4000 ∧ roundDown25 24 = 0 := by decide

/-! ## Lines, port U and the reset -/

theorem test_power_on :
    seen (exec .powerOnOrRst running) (fun t => (t.op, t.gate, t.guard.lock, t.entryAt ⟨.a, 1, 0⟩))
      = some (.config, false, false, none) := by decide

/-- R185: the first frame is a SETPOINT of mode BATTERY, charge 0, shuttle off, numbered 0. -/
theorem test_first_frame :
    seen (exec .rstRelease State.reset) (fun t => (t.link.sendingD, t.gate))
      = some (some ⟨4, 0, 4, 0, [1, 0, 0, 0, 0, 0]⟩, false) := by decide

theorem test_bad_frame_on_u : seen (exec .portUBadFrame awake) id = some awake := by decide

theorem test_other_frame_on_u : seen (exec .otherFrameOnPortU awake) id = some awake := by decide

/-- 09's worked sequence: the fifth command is discarded and the count of 2 becomes 3. -/
def fullQueue : State :=
  { running with
    balance := { running.balance with shuttle := { shuttleReset with active := true, source := some .one } }
    cmd :=
      { running.cmd with
        held :=
          [{ heldAt 0 60 [19, 1, 0, 1, 244] .waiting with wait := some 5 }, heldAt 1 61 [3, 0, 0, 0] .waiting,
           heldAt 2 62 [20, 0, 0, 0] .waiting, heldAt 3 63 [3, 0, 0, 0] .waiting]
        discards := 2 } }

theorem test_fifth_command_discarded :
    seen (exec (.command 0 15 64 [20, 4, 0, 0]) fullQueue) (fun t => (t.cmd.held.length, t.cmd.overrun, t.cmd.discards))
      = some (4, true, 3) := by decide

/-- R42 for a SWAP whose arguments do not fit its layout: BAD_ENTRY with the designation and the stored step. -/
theorem test_malformed_swap :
    seen (exec (.command 0 15 64 [9, 1, 1]) (holding running)) lastReply
      = some (some (.badEntry, [.bank (some .a), .step (some ⟨.a, 1, 0⟩)])) := by decide

/-- The same queue when the shuttle is ended: every command issues at the one event. -/
theorem test_queue_drains :
    seen (exec .timeLimitExpiry (holding fullQueue)) (fun t => t.out.replies.map (·.echo)) = some [60, 61, 62, 63] := by
  decide

theorem test_soft_reset :
    seen (exec (.reset 77) (holding fullQueue))
        (fun t => (t.op, lastReply t, t.guard.lock, t.link.portD.length))
      = some (.config, some (.ok, [.byte 1, .byte 4]), true, 3) := by decide

theorem test_unknown_name :
    seen (exec (.unknownCommand 0 15 8 [22]) (holding awake)) lastReply = some (some (.unknown, [])) := by decide

theorem test_node_command :
    seen (exec (.nodeCommand .m2 15 61 [21]) awake) (fun t => (t.link.sendingD, t.cmd.nodes.m2))
      = some (some ⟨2, 15, 6, 61, [21]⟩, .command 0 61 0) := by decide

/-! ## Port D -/

/-- 04's worked sequence: the fourth bad frame sets the mark and LINK, the count 42 becoming 43. -/
def threeBad : State :=
  { running with
    link := { running.link with badCount := 3 }
    guard := { running.guard with causes := { Causes.none with cellHigh := true }, changes := 42 } }

theorem test_fourth_bad_frame :
    seen (exec .portDBadFrame threeBad)
        (fun t => (t.guard.linkMark, t.guard.causes.link, t.guard.changes, t.seqr.effective, t.link.badCount))
      = some (true, true, 43, some ⟨.a, 11, 0⟩, 4) := by decide

theorem test_good_frame_clears_mark :
    seen (exec .unfitFrame { awake with link := { awake.link with badCount := 4 }, guard := { awake.guard with linkMark := true } })
        (fun t => (t.link.badCount, t.guard.linkMark)) = some (0, false) := by decide

/-- 01's worked sequence, first sample. -/
theorem test_first_sample :
    seen (exec (.sample .one ⟨0, 40, 4012, 2000, 305, 200, 0, 0⟩ false) (holding running))
        (fun t => ((t.cell .one).charge, (t.cell .one).soc, (t.cell .one).staleness, (t.cell .one).contribution.isSome,
          t.out.forward.length))
      = some (40500400000, 500, some 200, true, 1) := by decide

/-- 01's worked sequence, third sample: an invalid voltage integrates, keeps 4003 and leaves the timer. -/
theorem test_third_sample :
    seen (exec (.sample .two ⟨0, 17, 65535, 2000, 299, 200, 0, 0⟩ false) running)
        (fun t => ((t.cell .two).charge, (t.cell .two).voltage, (t.cell .two).temperature, (t.cell .two).staleness,
          (t.cell .two).contribution))
      = some (38700400000, some 4003, some 299, some 160, none) := by decide

/-- M3's INPUT of 06's worked sequence: 5080 mV is at or above VIN_MIN. -/
theorem test_input_present :
    seen (exec (.input ⟨0, 3, 5080, 0, 8020, 200, 200⟩) awake) (fun t => (t.path.present, t.cells.input.power, t.link.portD))
      = some (true, 1604, [⟨4, 0, 4, 0, [2, 0, 0, 0, 0, 0]⟩]) := by decide

/-- 08's worked sequence: fault 17 with sequence 203 in RUN. -/
theorem test_stage_fault :
    seen (exec (.stage ⟨0, 203, 1200, 3, 0, 17⟩) running) (fun t => (t.op, t.gate, t.hold.record.map (·.cause)))
      = some (.held, false, some ⟨.stageFault, .stage, .number 17, some 203, false⟩) := by decide

/-- NODE4 held by a setpoint, with another in the slot. -/
def twoSetpoints : State :=
  { running with
    cmd := { running.cmd with nodes := { running.cmd.nodes with s4 := .setpoint ⟨⟨.charge, 1000, .off, 0, .run⟩, 8⟩ 39 } }
    path := { running.path with slot := some ⟨.charge, 1500, .off, 0, .run⟩ } }

theorem test_stage_answer_sends_slot :
    seen (exec (.stage ⟨0, 7, 1000, 3, 0, 0⟩) twoSetpoints) (fun t => (t.path.slot, t.path.slewRef, t.gate, t.path.silent))
      = some (none, 1500, true, 0) := by decide

/-- R120 and the worked sequence of 06 at t = 73 ms: a report taken as unsolicited clears the silent count and leaves the
outstanding setpoint and the slot. -/
theorem test_late_report :
    let t := State.enterReport { twoSetpoints with path := { twoSetpoints.path with silent := 1, overdue := true } } ⟨0, 7, 1000, 3, 0, 0⟩ false
    t.path.silent = 0 ∧ t.path.overdue = false ∧ t.cmd.nodes = twoSetpoints.cmd.nodes ∧ t.path.slot = twoSetpoints.path.slot
      ∧ t.path.stage.map (·.answered) = some false := by decide

/-- R169: after a RESET the zero setpoint's own answer is awaited, whatever timed out before. -/
theorem test_report_after_reset :
    let late : State := { twoSetpoints with path := { twoSetpoints.path with silent := 1, overdue := true } }
    seen (exec (.stage ⟨0, 204, 0, 2, 0, 0⟩) late.resetQueues.resetPath.callSetpoint)
        (fun t => (t.path.stage.map (·.answered), t.cmd.nodes.s4, t.path.silent)) = some (some true, .empty, 0) := by decide

/-- R80: HOST_SET in RUN hands the last round over with the override entry at column 7 and calls for its setpoint: the
input term, 2250 mW over 8713 mV, rounded down to 250 mA (R91 to R95). -/
theorem test_override_evaluation :
    seen (exec (.overrideSet 1) measured)
        (fun t => (t.seqr.effective, t.path.handOver.bind (·.column), t.path.lastSetpoint.map (·.setpoint.charge), t.op))
      = some (some ⟨.a, 11, 7⟩, some 7, some 250, .run) := by decide

/-- A command of sequence 61 at M2. -/
def nodeAsked : State :=
  { awake with
    cmd :=
      { awake.cmd with
        held := [⟨0, 2, 15, 61, [9], .atNode, none⟩]
        nodes := { awake.cmd.nodes with m2 := .command 0 61 12 } } }

theorem test_node_reply :
    seen (exec (.nodeReply .m2 15 200 [1, 2]) nodeAsked)
        (fun t => (t.cmd.nodes.m2, t.link.sendingU, t.cmd.held.map (·.state)))
      = some (.empty, some ⟨⟨15, 2, 7, 200, [1, 2]⟩, some 0⟩, [.replied]) := by decide

theorem test_late_node_reply :
    seen (exec (.nodeReply .m2 15 200 [1, 2]) awake) (fun t => (t.cmd.late.m2, t.out.forward, t.link.sendingU))
      = some (1, [], none) := by decide

/-! ## Evaluations -/

/-- 03's worked sequence: at 4403 mV STICKY sets T and ADVANCE enters (A, 1, 1), not announced. -/
theorem test_advance :
    let t := running.roundEvaluation (roundOf 4403 4390 250 250 1500 900 900)
    t.seqr.stored = some ⟨.a, 1, 1⟩ ∧ t.seqr.t = false ∧ t.out.alerts = [] ∧ t.path.handOver.map (·.addr) = some ⟨.a, 1, 1⟩ := by
  decide

/-- A pack current of 243 enters the top-off step, whose STEP alert names it, the step replaced and ADVANCE. -/
theorem test_announced_entry :
    let s := { running with seqr := { running.seqr with stored := some ⟨.a, 1, 1⟩ } }
    let t := s.roundEvaluation (roundOf 4440 4430 250 250 243 980 970)
    t.seqr.dwell = .running 600000
      ∧ t.out.alerts
          = [⟨.step, [.step (some ⟨.a, 1, 2⟩), .step (some ⟨.a, 1, 1⟩), .byte 1, .byte 1, .step (some ⟨.a, 1, 2⟩),
              .word 4440, .word 243, .word 970]⟩] := by decide

/-- 04's worked sequence: 4484 sets CELL_HIGH, 4470 keeps it, 4455 clears it. -/
theorem test_cell_high_band :
    let at' (high : Bool) (v : Int) :=
      (State.stageCauses { running with guard := { running.guard with causes := { Causes.none with cellHigh := high } } }
        (roundOf v (v - 21) 250 250 0 900 900)).guard
    (at' false 4484).causes.cellHigh = true ∧ (at' false 4484).changes = 1 ∧ (at' true 4470).causes.cellHigh = true
      ∧ (at' true 4455).causes.cellHigh = false := by decide

/-- 07's worked transfer, hand-over E0: a lead of 35 starts 1,354,500,000 units from cell 1. -/
theorem test_shuttle_start :
    let x := (running.balanceDecision (roundOf 3900 3890 250 250 0 620 585) .any false .adapter).balance.shuttle
    x.active = true ∧ x.source = some .one ∧ x.lead = 35 ∧ x.amount = 1354500000 ∧ x.length = 900000 := by decide

/-! ## Commands -/

/-- The bytes of a step entry with the limit 4010, the gate UNTIL_D and a dwell of 600 s. -/
def topOffBytes : StepBytes := ⟨4010, 4450, 100, 0, 3, 0, 600, 0, 0, 2, 4, 2, 0, 0, 1⟩

theorem test_load_step :
    seen (exec (.loadStep 1 0 1 2 topOffBytes) (holding awake)) (fun t => (t.entryAt ⟨.a, 1, 2⟩, (lastReply t).map (·.1)))
      = some (some { topOff with limit := 4000 }, some .clamped) := by decide

theorem test_load_step_until_d_without_dwell :
    seen (exec (.loadStep 1 0 1 2 { topOffBytes with dwell := 0 }) (holding awake)) lastReply
      = some (some (.badEntry, [.byte 7])) := by decide

theorem test_clear_step_entry :
    seen (exec (.clearStepEntry 1 1 1 2) (holding running)) (fun t => (t.entryAt ⟨.b, 1, 2⟩, t.entryAt ⟨.a, 1, 2⟩, lastReply t))
      = some (none, some topOff, some (.ok, [])) := by decide

theorem test_clear_step_bank :
    seen (exec (.clearStepBank 1 0) (holding loaded)) (fun t => (t.entryAt ⟨.a, 11, 7⟩, t.entryAt ⟨.b, 11, 7⟩))
      = some (none, some overrideStep) := by decide

/-- The bytes of a READ_STEP reply's results: marks, designation, then the 20 bytes of the entry (R183). -/
theorem test_read_step :
    seen (exec (.readStep 1 0 1 2) (holding running)) (fun t => (lastReply t).map fun x => encodeFields x.2)
      = some (some ([3, 0] ++ [0x03, 0xE8, 0x11, 0x62, 0, 100, 0, 3, 0, 0x02, 0x58, 0, 0, 0, 2, 4, 2, 0, 0, 1])) := by decide

theorem test_load_capacity :
    seen (exec (.loadTableCell 1 0 499) (holding awake)) (fun t => (t.cells.table[0], (lastReply t).map (·.1)))
      = some (500, some .clamped) := by decide

theorem test_load_ocv :
    seen (exec (.loadTableOcv 1 15 4450 1000) (holding { loaded with cells := { cellsOn with ocv := ⟨ocvs, false⟩ } }))
        (fun t => (t.cells.ocv.valid, lastReply t)) = some (true, some (.ok, [.mark true])) := by decide

/-- A derate temperature is signed: 0xFFCE is −50. -/
theorem test_load_derate :
    seen (exec (.loadTableDerate 1 0 0xFFCE 0) awake) (fun t => t.path.derate.points[0]) = some ⟨-50, 0⟩ := by decide

/-- SOFT_OV at 4600 does not lie below HARD_OV at 4550: the write stands and the first relation is marked. -/
theorem test_load_guard :
    seen (exec (.loadTableGuard 1 0 4600) (holding awake)) (fun t => (t.guard.softOv, lastReply t))
      = some (4600, some (.ok, [.word 4600, .mark true, .mark false, .mark false])) := by decide

theorem test_load_limit_locked :
    seen (exec (.loadTableLimit 1 0 4600) (holding { awake with guard := { awake.guard with lock := true } })) lastReply
      = some (some (.locked, [.mark true, .mark false, .mark false, .mark false])) := by decide

theorem test_load_limit_held :
    seen (exec (.loadTableLimit 1 0 4600) heldHub) (fun t => t.guard.hardOv) = some 4600 := by decide

theorem test_load_balance :
    seen (exec (.loadTableBalance 1 1 30) (holding awake)) lastReply
      = some (some (.ok, [.word 30, .mark false])) := by decide

/-- N 2, annotated, used: 0x0205; on an INPUT entry it is refused. -/
theorem test_load_route :
    seen (exec (.loadTableRoute 1 0 0x0205) running) (fun t => t.routes[0]) = some ⟨true, .annotated, 2, 0⟩
      ∧ seen (exec (.loadTableRoute 1 7 0x0205) (holding running)) lastReply = some (some (.badEntry, [])) := by decide

theorem test_read_table :
    seen (exec (.readTable 1 3 5) (holding running)) lastReply
      = some (some (.ok, [.word 4500, .mark false, .mark false, .mark false])) := by decide

theorem test_lock : seen (exec (.lock 1) awake) (fun t => t.guard.lock) = some true := by decide

theorem test_start :
    seen (exec (.start 1 0 1 2) loaded) (fun t => (t.op, t.seqr.stored, t.seqr.dwell, t.guard.lock, t.path.computation.map (·.noRound)))
      = some (.run, some ⟨.a, 1, 2⟩, .running 600000, true, some true) := by decide

theorem test_start_names_condition :
    seen (exec (.start 1 0 1 0) (holding { loaded with cells := { cellsOn with ocv := ⟨ocvs, false⟩ } })) lastReply
      = some (some (.badTable, [.byte 4])) := by decide

theorem test_stop :
    seen (exec (.stop 1) running) (fun t => (t.op, t.gate, t.path.lastSetpoint.map (·.setpoint)))
      = some (.config, false, some ⟨.adapter, 0, .off, 0, .config⟩) := by decide

theorem test_swap_then_round :
    seen (exec (.swap 21 1 none) (holding running)) (fun t => (t.seqr.swap, t.out.replies.length))
        = some (some ⟨.b, none, 0, 21⟩, 0)
      ∧ (let s := { running with seqr := { running.seqr with swap := some ⟨.b, none, 0, 21⟩ } }
         let t := s.roundEvaluation (roundOf 4000 3990 250 250 1500 500 500)
         t.seqr.designation = some .b ∧ t.seqr.stored = some ⟨.b, 1, 0⟩ ∧ t.seqr.swap = none
          ∧ lastReply t = some (.ok, [.bank (some .b), .step (some ⟨.b, 1, 0⟩), .step (some ⟨.b, 1, 0⟩), .mark false])) := by
  decide

theorem test_goto :
    seen (exec (.goto 1 1 2) running) (fun t => t.seqr.goto) = some (some (1, 2))
      ∧ seen (exec (.goto 1 1 3) (holding running)) lastReply = some (some (.badEntry, [])) := by decide

theorem test_override_set :
    seen (exec (.overrideSet 1) (holding running)) (fun t => (t.guard.hostReq, t.seqr.effective, lastReply t))
      = some (true, some ⟨.a, 11, 7⟩, some (.ok, [.mark true, .causes { Causes.none with hostSet := true }, .mark true])) := by
  decide

theorem test_override_clear :
    seen (exec (.overrideClear 1) { running with guard := { running.guard with hostReq := true } }) (fun t => t.guard.hostReq)
      = some false := by decide

theorem test_hold :
    seen (exec (.hold 1 (some 258)) running) (fun t => (t.op, t.hold.record.map (·.cause)))
      = some (.held, some ⟨.host, .host, .code 258, none, false⟩) := by decide

theorem test_resume_continue :
    seen (exec (.resumeContinue 1) heldHub) (fun t => (t.op, t.seqr.stored, t.hold.record.bind (·.resolution)))
      = some (.run, some ⟨.a, 1, 0⟩, some (.resumed .continue)) := by decide

theorem test_resume_retry_with_pending_hold :
    seen (exec (.resumeRetry 1)
          { heldHub with hold := { heldHub.hold with pendingHold := some ⟨.stageFault, .stage, .number 17, some 203, false⟩ } })
        (fun t => (t.op, t.hold.record.map (fun h => (h.cause.kind, h.reentry)), t.hold.pendingHold))
      = some (.held, some (.stageFault, true), none) := by decide

theorem test_resume_home :
    seen (exec (.resumeHome 1) heldHub) (fun t => (t.op, t.seqr.stored)) = some (.run, some ⟨.a, 0, 0⟩) := by decide

theorem test_resume_step :
    seen (exec (.resumeStep 1 1 2) heldHub) (fun t => (t.seqr.stored, t.seqr.dwell)) = some (some ⟨.a, 1, 2⟩, .running 600000)
      ∧ seen (exec (.resumeStep 1 11 0) (holding heldHub)) (fun t => (t.op, (lastReply t).map (·.1)))
          = some (.held, some .badEntry) := by decide

theorem test_resume_stop :
    seen (exec (.resumeStop 1) heldHub) (fun t => (t.op, t.seqr.stored, t.hold.record.bind (·.resolution)))
      = some (.config, some ⟨.a, 1, 0⟩, some (.resumed .stop)) := by decide

theorem test_offer_clamped :
    seen (exec (.offer 1 4000 6000 1) (holding loaded)) (fun t => (t.path.pendingOffer, (lastReply t).map (·.1)))
      = some (some ⟨5000, 5000, 1⟩, some .clamped) := by decide

theorem test_offer_without_input :
    seen (exec (.offer 1 9000 3000 2) (holding awake)) lastReply = some (some (.state, [.mark false])) := by decide

/-- `loaded` with a pending offer. -/
def offered : State := { loaded with path := { loaded.path with pendingOffer := some ⟨9000, 3000, 2⟩ } }

theorem test_accept :
    seen (exec (.accept 1) offered) (fun t => (t.path.pendingOffer, t.path.acceptedOffer))
      = some (none, some ⟨9000, 3000, 2⟩) := by decide

theorem test_withdraw :
    seen (exec (.withdraw 1) (holding offered)) (fun t => (t.path.pendingOffer, lastReply t))
      = some (none, some (.ok, [.mark true, .mark false])) := by decide

theorem test_ship :
    seen (exec (.ship 1) awake) (fun t => (t.path.ship, t.link.sendingD))
      = some (true, some ⟨4, 0, 4, 0, [0, 0, 0, 0, 0, 0]⟩) := by decide

theorem test_balance_shuttle :
    seen (exec (.balanceShuttle 1 2 (some (50000, 3))) running)
        (fun t => (t.balance.shuttle.active, t.balance.shuttle.source, t.balance.shuttle.amount, t.balance.shuttle.origin))
      = some (true, some .two, 400000, .host) := by decide

theorem test_balance_bleed :
    seen (exec (.balanceBleed 1 1 1) running) (fun t => (t.balance.bleeds.one.origin, t.link.sendingD))
      = some (.host, some ⟨1, 0, 5, 0, [1]⟩) := by decide

theorem test_balance_stop :
    seen (exec (.balanceStop 1) { fullQueue with cmd := running.cmd })
        (fun t => (t.balance.shuttle.active, t.balance.shuttle.endReason, t.balance.shuttle.cooldown))
      = some (false, .aborted .command, some 60000) := by decide

/-- 500 permille of 81,000,000,000 units. -/
theorem test_set_charge :
    seen (exec (.setCharge 1 1 (.soc 500)) loaded) (fun t => ((t.cell .one).charge, (t.cell .one).soc)) = some (40500000000, 500)
      ∧ seen (exec (.setCharge 1 1 (.scaled 38624 21)) (holding loaded))
          (fun t => ((t.cell .one).charge, (lastReply t).map (·.1))) = some (81000000000, some .clamped) := by decide

/-- The first part of the OFFERS record begins with part 0; a part at the count is refused. -/
theorem test_query :
    seen (exec (.query 1 5 0 0) (holding awake)) (fun t => (lastReply t).map (·.1)) = some (some .ok)
      ∧ seen (exec (.query 1 5 0 200) (holding awake)) lastReply = some (some (.badEntry, [])) := by decide

/-- R104's order: mode, charge, shuttle state, shuttle current, sequence number 9, operating state RUN. -/
theorem test_setpoint_record_order :
    encodeFields (SentSetpoint.fields ⟨⟨.charge, 1200, .off, 0, .run⟩, 9⟩) = [3, 0x04, 0xB0, 0, 0, 0, 9, 1] := by decide

/-! ## Timers and transmitters -/

theorem test_wait_limit :
    seen (exec .waitLimitExpiry { fullQueue with cmd := { fullQueue.cmd with held := fullQueue.cmd.held.take 1 } })
        (fun t => t.link.sendingU.map (·.frame.payload)) = some (some [2, 0, 60, 1]) := by decide

/-- R42: the BUSY of a SWAP carries the designation A and the stored step (A, 1, 0), then the reservation BANKS. -/
theorem test_wait_limit_of_swap :
    seen (exec .waitLimitExpiry
          { running with
            seqr := { running.seqr with swap := some ⟨.b, none, 3, 20⟩ }
            cmd := { running.cmd with held := [{ heldAt 0 60 [9, 1] .waiting with wait := some 250 }] } })
        (fun t => t.link.sendingU.map (·.frame.payload)) = some (some [2, 0, 60, 0, 0, 8, 0]) := by decide

theorem test_node_timeout :
    seen (exec (.nodeTimeout .m2) nodeAsked) (fun t => (t.cmd.nodes.m2, t.link.sendingU.map (·.frame.payload)))
      = some (.empty, some [9, 0, 61, 2, 0, 0, 0, 40]) := by decide

/-- 06's worked sequence, t = 72 ms: the slot is discarded and the HELD setpoint is sent. -/
theorem test_answer_timeout :
    seen (exec .answerTimeout twoSetpoints)
        (fun t => (t.op, t.gate, t.path.silent, t.path.slot, t.path.lastSetpoint.map (·.setpoint)))
      = some (.held, false, 1, none, some ⟨.adapter, 0, .off, 0, .held⟩) := by decide

/-- R117 and R119: a command to node 4 that waits takes NODE4 at the timeout, and the HELD setpoint waits in the slot. -/
theorem test_answer_timeout_frees_node4 :
    seen (exec .answerTimeout
          { twoSetpoints with
            cmd := { twoSetpoints.cmd with held := [⟨0, 4, 15, 61, [9], .waiting, some 3⟩] } })
        (fun t => (t.op, t.cmd.nodes.s4, t.path.slot, t.link.portD))
      = some (.held, .command 0 61 0, some ⟨.adapter, 0, .off, 0, .held⟩, [⟨4, 15, 6, 61, [9]⟩]) := by decide

theorem test_staleness :
    seen (exec (.stalenessExpiry (.cell .two)) running) (fun t => ((t.cell .two).monitor, t.guard.causes.stale, t.seqr.effective))
      = some (.stale, true, some ⟨.a, 11, 4⟩) := by decide

theorem test_rest : seen (exec (.restExpiry .one) awake) (fun t => ((t.cell .one).rested, (t.cell .one).rest)) = some (true, none) := by
  decide

/-- The dwell of the top-off step runs out: UNTIL_D hands over with D at 1, and the setpoint carries 0. -/
theorem test_dwell :
    seen (exec .dwellExpiry
          { running with
            cells := { cellsOn with lastRound := some (roundOf 4440 4430 250 250 243 980 970) }
            seqr := { running.seqr with stored := some ⟨.a, 1, 2⟩, dwell := .running 0 } })
        (fun t => (t.seqr.d, t.seqr.dwell, t.gate, t.path.lastSetpoint.map fun p => (p.setpoint.mode, p.setpoint.charge)))
      = some (true, .expired, false, some (.adapter, 0)) := by decide

theorem test_time_limit :
    seen (exec .timeLimitExpiry { fullQueue with cmd := running.cmd })
        (fun t => (t.balance.shuttle.active, t.balance.shuttle.endReason)) = some (false, .timeout) := by decide

theorem test_cooldown :
    seen (exec .cooldownExpiry { awake with balance := { awake.balance with shuttle := { shuttleReset with cooldown := some 0 } } })
        (fun t => t.balance.shuttle.cooldown) = some none := by decide

theorem test_sent_u :
    seen (exec .portUFrameSent
          { nodeAsked with link := { awake.link with sendingU := some ⟨⟨15, 2, 7, 200, []⟩, some 0⟩ } })
        (fun t => (t.cmd.held, t.link.sendingU)) = some ([], none) := by decide

theorem test_sent_d :
    seen (exec .portDFrameSent
          { awake with link := { awake.link with sendingD := some ⟨1, 0, 5, 0, [0]⟩, queueD := [⟨2, 0, 5, 1, [0]⟩] } })
        (fun t => (t.link.sendingD, t.link.queueD)) = some (some ⟨2, 0, 5, 1, [0]⟩, []) := by decide

/-- A millisecond passes with nothing due, and a record whose timer has run down goes STALE at the next step. -/
theorem test_clock :
    seen (step running) (fun t => (t.cell .one).staleness) = some (some 159)
      ∧ seen (step { running with cells := { cellsOn with records := { cellsOn.records with one := { cellOn 4011 305 0 0 39 with staleness := some 0 } } } })
          (fun t => (t.cell .one).monitor) = some .stale := by decide

/-! ## Witnesses: for each statement with hypotheses, states and operands that meet them, at the ends of their ranges -/

theorem witness_StepTakesFront :
    (State.reset.pending = [] ∧ State.reset.rst = true)
      ∧ (running.pending = [] ∧ running.rst = false ∧ running.due = [])
      ∧ (let s := loaded.setCell .two { loaded.cell .two with staleness := some 0 }
         s.pending = [] ∧ s.rst = false ∧ s.due = Instr.stalenessExpiry (.cell .two) :: []) := by decide

theorem witness_ReleaseSendsZeroSetpoint :
    State.reset.rst = true ∧ Instr.lock 0 ≠ .powerOnOrRst ∧ Instr.lock 0 ≠ .rstRelease := by decide

/-- A SET_CHARGE for cell 1, as the processor sends it. -/
def chargeBytesOf : List Byte := [19, 1, 0, 1, 244]

theorem witness_CommandAcceptedOrDiscarded :
    awake.rst = false ∧ awake.settled
      ∧ (fullQueue.rst = false ∧ fullQueue.settled ∧ isReset 0 [] = false ∧ fullQueue.cmd.held.length ≥ 4)
      ∧ (let s := fullQueue.withHeld (fullQueue.cmd.held.take 3)
         s.rst = false ∧ s.settled ∧ isReset 15 [21] = false ∧ s.cmd.held.length < 4 ∧ s.head.isSome)
      ∧ (let s := fullQueue.withHeld []
         s.rst = false ∧ s.settled ∧ isReset 0 chargeBytesOf = false ∧ s.cmd.held.length < 4 ∧ s.head = none
          ∧ (s.blockedOn ⟨s.freePlace, 0, 15, 255, chargeBytesOf, .waiting, none⟩).isSome) := by decide

/-- Three commands held, each with its reply. -/
def threeReplied : State :=
  { running with
    cmd :=
      { running.cmd with
        held := [heldAt 0 1 [6] .replied, heldAt 1 2 [6] .replied, heldAt 3 3 [6] .replied] } }

/-- RUN with a swap, a goto and a shuttle, and nothing held. -/
def busyRun : State :=
  { fullQueue with
    cmd := running.cmd
    seqr := { running.seqr with swap := some ⟨.b, none, 0, 21⟩, goto := some (10, 7), dwell := .running 412000 } }

theorem witness_UnknownAnswered :
    (awake.ready = true ∧ isReset 0 [] = false ∧ isUnknown 0 [] = true)
      ∧ (threeReplied.ready = true ∧ isReset 0 [22] = false ∧ isUnknown 0 [22] = true ∧ isUnknown 0 [0] = true)
      ∧ (isReset 5 [21] = false ∧ isUnknown 5 [21] = true ∧ isReset 15 [] = false ∧ isUnknown 15 [] = true)
      ∧ ([9, 13, 4, 5, 7].all (fun name => parseCommand [name] = .badArguments) = true)
      ∧ ([[4, 1], [4, 2], [4, 4], [4, 5, 6], [4, 5, 7], [5, 7]].all (fun l => parseCommand l = .badArguments) = true)
      ∧ threeReplied.blockedOn (heldAt 0 3 [9] .replied) = none ∧ HubCommand.row .lock 3 = some (.lock 3) := by decide

theorem witness_NodeCommandForwarded :
    awake.ready = true ∧ (∀ n, awake.cmd.nodes.get n = .empty) ∧ threeReplied.ready = true
      ∧ threeReplied.cmd.nodes.get .s4 = .empty := by
  refine ⟨by decide, ?_, by decide, by decide⟩
  intro n
  cases n <;> decide

theorem witness_SoftReset :
    (awake.rst = false ∧ awake.link.sendingU = none ∧ awake.op ≠ .held)
      ∧ ((holding fullQueue).rst = false ∧ (holding fullQueue).link.sendingU.isSome
          ∧ fullQueue.balance.shuttle.active = true)
      ∧ (heldHub.rst = false ∧ heldHub.op = .held ∧ heldHub.routes[stageRoute].use = true) := by decide

theorem witness_BadAndGoodFrames :
    let counted (s : State) (n : Nat) : State := { s with link := { s.link with badCount := n } }
    ((counted awake 0).quiet = true ∧ (counted awake 2).link.badCount ≠ 3 ∧ (counted awake 255).link.badCount ≠ 3)
      ∧ ((counted awake 3).quiet = true ∧ (counted awake 3).link.badCount = 3 ∧ awake.op = .config)
      ∧ (threeBad.quiet = true ∧ threeBad.link.badCount = 3 ∧ threeBad.op ≠ .config
          ∧ threeBad.guard.causes.link = false ∧ threeBad.op = .run ∧ threeBad.profiled = true
          ∧ threeBad.cells.lastRound = none)
      ∧ ((counted measured 3).quiet = true ∧ measured.op = .run ∧ measured.guard.causes.link = false
          ∧ measured.profiled = true ∧ measured.cells.lastRound.isSome ∧ measured.cmd.nodes.get .s4 = .empty)
      ∧ ((counted heldHub 3).quiet = true ∧ heldHub.op = .held ∧ heldHub.guard.causes.link = false)
      ∧ (counted running 3).link.badCount < 4 ∧ (counted running 4).link.badCount ≥ 4
      ∧ (counted running 4).quiet = true := by decide

/-- A SAMPLE of 4012 mV at 2000 mA. -/
def cleanSample : SampleFrame := ⟨0, 40, 4012, 2000, 305, 200, 0, 0⟩

/-- A SAMPLE of 4012 mV at the rest current of 50 mA. -/
def quietSample : SampleFrame := ⟨0, 40, 4012, 50, 305, 200, 0, 0⟩

/-- `loaded` with cell 1's record changed. -/
def withOne (f : CellRecord → CellRecord) : State := loaded.setCell .one (f (loaded.cell .one))

/-- The hypotheses of `SampleInConfig`, for cell 1. -/
abbrev sampleMeets (s : State) (f : SampleFrame) : Prop :=
  s.quiet = true ∧ s.op = .config ∧ s.balance.shuttle.active = false ∧ s.routes[sampleRoute .one].use = true
    ∧ (s.cell .one).lastSeq ≠ some f.seq ∧ ((s.cell (otherCell .one)).contribution = none ∨ sampleClean f = false)

theorem witness_SampleInConfig :
    let ready (s : State) : Prop := s.cells.ocv.valid = true ∧ s.cells.capacity .one ≠ 0
    let disturbed (s : State) (f : SampleFrame) : Prop := (f.current.toInt.natAbs : Int) > s.cells.restI
    (sampleMeets loaded cleanSample ∧ sampleClean cleanSample = true ∧ (loaded.cell .one).known = true
        ∧ (loaded.cell .one).rested = false ∧ disturbed loaded cleanSample)
      ∧ (sampleMeets loaded quietSample ∧ ¬ disturbed loaded quietSample)
      ∧ (let f := { cleanSample with voltage := 65535 }
         let s := loaded.setCell .two { loaded.cell .two with contribution := some ⟨4000, 300, 0, 0⟩ }
         sampleMeets s f ∧ sampleClean f = false ∧ sampleMillivolts f = none)
      ∧ (let s := withOne fun r => { r with known := false }
         sampleMeets s cleanSample ∧ sampleMillivolts cleanSample = some 4012 ∧ (s.cell .one).known = false ∧ ready s)
      ∧ (let s := withOne fun r => { r with rested := true, rest := none }
         sampleMeets s quietSample ∧ sampleMillivolts quietSample = some 4012 ∧ (s.cell .one).known = true ∧ ready s
          ∧ (s.cell .one).rested = true ∧ ¬ disturbed s quietSample) := by decide

/-- Samples that pass annotated, pass plain and do not pass, with port U sending and room in the forward queue. -/
theorem witness_SampleInConfig_forwarded :
    let passing (p : Pass) (k : Nat) : State := { holding loaded with routes := loaded.routes.set 0 ⟨true, p, 2, k⟩ }
    sampleMeets (passing .annotated 1) cleanSample ∧ (passing .annotated 1).link.sendingU.isSome
      ∧ (passing .annotated 1).out.forward.length < 8 ∧ (passing .annotated 1).routes[sampleRoute .one].counter + 1 ≥ 2
      ∧ sampleMeets (passing .plain 1) cleanSample ∧ sampleMeets (passing .plain 0) cleanSample
      ∧ ¬ (passing .plain 0).routes[sampleRoute .one].counter + 1 ≥ 2 := by decide

theorem witness_SampleNotUsed :
    (running.quiet = true ∧ (running.cell .one).lastSeq = some ({ cleanSample with seq := 39 } : SampleFrame).seq)
      ∧ (let s := { running with routes := running.routes.set 3 ⟨false, .plain, 64, 63⟩ }
         s.quiet = true ∧ s.routes[sampleRoute .two].use = false)
      ∧ ((holding running).quiet = true ∧ (holding running).link.sendingU.isSome
          ∧ (holding running).out.forward.length < 8) := by decide

theorem witness_RoundCompletes :
    let k : Contribution := ⟨4000, 300, -1, 0⟩
    let ready (s : State) : State := s.setCell .two { s.cell .two with contribution := some k }
    let meets (s : State) : Prop :=
      s.quiet = true ∧ (s.balance.shuttle.active = false ∨ s.balance.shuttle.source ≠ some .one)
        ∧ s.routes[sampleRoute .one].use = true ∧ (s.cell .one).lastSeq ≠ some cleanSample.seq
        ∧ (s.cell (otherCell .one)).contribution = some k
    meets (ready loaded) ∧ meets (ready heldHub) ∧ meets (ready running) ∧ sampleClean cleanSample = true
      ∧ (let s := { busyRun with
                      balance := { busyRun.balance with shuttle := { busyRun.balance.shuttle with source := some .two } } }
         meets (ready s) ∧ s.balance.shuttle.active = true)
      ∧ ((cleanSample.voltage.toNat : Int) < running.guard.hardOv ∧ (cleanSample.voltage.toNat : Int) ≥ running.guard.hardUv
          ∧ cleanSample.temperature.toInt < running.guard.hardOt) := by decide

/-- What stage 3 leaves: the target it found empty, or the effective step's entry and how a step was entered. -/
def stageThree (s : State) (r : Summary) : Option StepAddr × Option StepEntry × Option Nat :=
  match (s.stageSwap.1.stageCauses r).stageStep r with
  | .blocked _ a => (some a, none, none)
  | .ok t e => (none, t.effectiveAddr.bind t.entryAt, e.map (·.how))

/-- Evaluations that meet the cases of the second part: an empty target, an empty override entry, the stored step, an override
and an announced entry. -/
theorem witness_RoundCompletes_evaluations :
    let quiet := roundOf 4000 3990 250 250 1500 500 500
    let full := roundOf 4403 4390 250 250 1500 900 900
    stageThree { running with seqr := { running.seqr with bankA := setBankEntry profile 1 1 none } } full
        = (some ⟨.a, 1, 1⟩, none, none)
      ∧ stageThree { running with seqr := { running.seqr with bankA := setBankEntry profile 11 0 none } }
            (roundOf 4484 4463 250 250 0 900 900) = (none, none, none)
      ∧ stageThree running quiet = (none, some constantCurrent, none)
      ∧ stageThree running (roundOf 4484 4463 250 250 0 900 900) = (none, some overrideStep, none)
      ∧ stageThree { running with seqr := { running.seqr with stored := some ⟨.a, 1, 1⟩ } }
            (roundOf 4440 4430 250 250 243 980 970) = (none, some topOff, some 1)
      ∧ running.cmd.nodes.get .s4 = .empty ∧ twoSetpoints.cmd.nodes.get .s4 ≠ .empty := by decide

theorem witness_FaultsHold :
    let f (v t : Word) : SampleFrame := { cleanSample with voltage := v, temperature := t }
    let pending (s : State) : State :=
      { s with hold := ⟨s.hold.record, some ⟨.host, .host, .absent, none, false⟩⟩ }
    (running.quiet = true ∧ running.op = .run ∧ running.hold.pendingHold = none
        ∧ running.routes[sampleRoute .one].use = true ∧ (running.cell .one).lastSeq ≠ some (f 4550 599).seq)
      ∧ (sampleMillivolts (f 4550 599) = some 4550 ∧ (4550 : Int) ≥ running.guard.hardOv
          ∧ sampleTenths (f 4550 599) = some 599 ∧ (599 : Int) < running.guard.hardOt)
      ∧ (sampleMillivolts (f 2499 600) = some 2499 ∧ (2499 : Int) < running.guard.hardUv
          ∧ sampleTenths (f 2499 600) = some 600 ∧ (600 : Int) ≥ running.guard.hardOt)
      ∧ (sampleMillivolts (f 65535 600) = none ∧ sampleTenths (f 65535 600) = some 600)
      ∧ (heldHub.quiet = true ∧ heldHub.op = .held ∧ heldHub.hold.pendingHold = none
          ∧ (pending heldHub).quiet = true ∧ (pending heldHub).hold.pendingHold.isSome)
      ∧ (running.routes[stageRoute].use = true ∧ (⟨0, 203, 0, 0, 0, 1⟩ : StageFrame).fault ≠ 0
          ∧ awake.quiet = true ∧ awake.op = .config ∧ awake.routes[stageRoute].use = true)
      ∧ running.cmd.nodes.get .s4 = .empty
      ∧ (twoSetpoints.quiet = true ∧ twoSetpoints.op = .run ∧ twoSetpoints.path.overdue = false
          ∧ twoSetpoints.path.slot = some ⟨.charge, 1500, .off, 0, .run⟩
          ∧ twoSetpoints.cmd.nodes.get .s4 = .setpoint ⟨⟨.charge, 1000, .off, 0, .run⟩, 8⟩ 39)
      ∧ (let s := { twoSetpoints with path := { running.path with overdue := true } }
         s.quiet = true ∧ s.op = .run ∧ s.path.overdue = true ∧ s.path.slot = none) := by decide

theorem witness_InputTaken :
    let f (v : Word) : InputFrame := ⟨0, 255, v, 0, 8000, 100, 200⟩
    running.quiet = true ∧ running.routes[inputRoute].use = true ∧ running.cells.input.lastSeq ≠ some (f 4500).seq
      ∧ awake.quiet = true ∧ awake.routes[inputRoute].use = true ∧ awake.cells.input.lastSeq ≠ some (f 4500).seq
      ∧ ((f 4500).adapter.toNat : Int) ≥ awake.guard.vinMin ∧ ¬ ((f 4499).adapter.toNat : Int) ≥ running.guard.vinMin
      ∧ running.path.present = true ∧ awake.path.present = false
      ∧ running.op = .run ∧ running.cmd.nodes.get .s4 = .empty ∧ awake.op ≠ .run ∧ awake.cmd.nodes.get .s4 = .empty
      ∧ (twoSetpoints.quiet = true ∧ twoSetpoints.path.present = true ∧ twoSetpoints.cmd.nodes.get .s4 ≠ .empty
          ∧ heldHub.quiet = true ∧ heldHub.op ≠ .run ∧ heldHub.path.present = true)
      ∧ (holding running).quiet = true ∧ (holding running).link.sendingU.isSome
      ∧ (holding running).out.forward.length < 8 := by decide

theorem witness_StageReported :
    (twoSetpoints.quiet = true ∧ twoSetpoints.routes[stageRoute].use = true ∧ (⟨0, 7, 0, 0, 0, 0⟩ : StageFrame).fault = 0
        ∧ twoSetpoints.cmd.nodes.get .s4 = .setpoint ⟨⟨.charge, 1000, .off, 0, .run⟩, 8⟩ 39
        ∧ twoSetpoints.path.slot = some ⟨.charge, 1500, .off, 0, .run⟩)
      ∧ (let s := { holding twoSetpoints with path := { running.path with silent := 255, overdue := true } }
         s.quiet = true ∧ s.path.slot = none ∧ s.path.overdue = true ∧ twoSetpoints.path.overdue = false ∧ s.link.sendingU.isSome
          ∧ s.out.forward.length < 8)
      ∧ (running.quiet = true ∧ ∀ p ms, running.cmd.nodes.get .s4 ≠ .setpoint p ms) := by
  refine ⟨by decide, by decide, by decide, ?_⟩
  intro p ms h
  cases h

theorem witness_NodeReplyTaken :
    (nodeAsked.quiet = true ∧ nodeAsked.cmd.nodes.get .m2 = .command 0 61 12 ∧ nodeAsked.link.sendingU = none
        ∧ nodeAsked.out = ⟨[], [], []⟩)
      ∧ (let s := { holding twoSetpoints with
                      cmd := { running.cmd with nodes := { running.cmd.nodes with s4 := .command 3 7 39 } }
                      path := running.path }
         s.quiet = true ∧ s.cmd.nodes.get .s4 = .command 3 7 39 ∧ s.path.slot = none ∧ s.link.sendingU.isSome
          ∧ s.out.forward.length < 8)
      ∧ (let s := { twoSetpoints with cmd := { running.cmd with nodes := { running.cmd.nodes with s4 := .command 3 7 39 } } }
         s.quiet = true ∧ s.cmd.nodes.get .s4 = .command 3 7 39 ∧ s.path.slot = some ⟨.charge, 1500, .off, 0, .run⟩
          ∧ s.link.sendingU = none ∧ s.out = ⟨[], [], []⟩)
      ∧ (twoSetpoints.quiet = true ∧ ∀ place q ms, twoSetpoints.cmd.nodes.get .s4 ≠ .command place q ms) := by
  refine ⟨by decide, by decide, by decide, by decide, ?_⟩
  intro place q ms h
  cases h

theorem witness_StepWrites :
    (awake.ready = true ∧ awake.seqr.swap = none ∧ addressOf 2 0 0 = none ∧ addressOf 0 12 0 = none
        ∧ addressOf 0 0 8 = none)
      ∧ (threeReplied.ready = true ∧ threeReplied.seqr.swap = none ∧ addressOf 0 11 7 = some ⟨.a, 11, 7⟩
          ∧ threeReplied.op ≠ .config ∧ threeReplied.seqr.designation = some .a)
      ∧ (addressOf 1 0 0 = some ⟨.b, 0, 0⟩ ∧ threeReplied.seqr.designation ≠ some .b)
      ∧ checkEntry { topOffBytes with announce := 2 } = .error 12 ∧ checkEntry { topOffBytes with path := 2 } = .error 4
      ∧ checkEntry { topOffBytes with dwell := 0 } = .error 7 ∧ checkEntry { topOffBytes with q := 11 } = .error 11
      ∧ (∃ k, checkEntry topOffBytes = .ok k)
      ∧ (bankOf 2 = none ∧ bankOf 255 = none ∧ bankOf 0 = some .a ∧ bankOf 1 = some .b) := by
  refine ⟨by decide, by decide, by decide, rfl, rfl, rfl, rfl, ⟨_, rfl⟩, by decide⟩

theorem witness_ReadStepReturns :
    awake.ready = true ∧ addressOf 0 12 0 = none ∧ threeReplied.ready = true ∧ addressOf 0 11 7 = some ⟨.a, 11, 7⟩
      ∧ addressOf 1 0 0 = some ⟨.b, 0, 0⟩ := by decide

theorem witness_SwapTaken :
    (awake.ready = true ∧ awake.seqr.swap = none ∧ awake.op ≠ .run)
      ∧ (threeReplied.ready = true ∧ threeReplied.seqr.swap = none ∧ threeReplied.op = .run
          ∧ bankOf 2 = none ∧ positionOf 11 0 = none ∧ positionOf 10 8 = none)
      ∧ (bankOf 0 = some .a ∧ threeReplied.seqr.designation = some .a)
      ∧ (bankOf 1 = some .b ∧ (positionOf 10 7).isSome ∧ threeReplied.seqr.designation ≠ some .b)
      ∧ (let swapping (b : Bank) (target : Option (Fin 11 × Fin 8)) : State :=
           { running with seqr := { running.seqr with bankB := b, swap := some ⟨.b, target, 0, 21⟩ } }
         (swapping profile none).seqr.swap = some ⟨.b, none, 0, 21⟩ ∧ running.seqr.stored = some ⟨.a, 1, 0⟩
          ∧ (∀ k, (bankEntry ((swapping profile none).seqr.bank .b) 11 k).isSome)
          ∧ ((swapping profile none).entryAt ⟨.b, 1, 0⟩).isSome
          ∧ (swapping profile (some (10, 7))).entryAt ⟨.b, profileRow 10, 7⟩ = none
          ∧ bankEntry ((swapping emptyBank none).seqr.bank .b) 11 0 = none) := by decide

theorem witness_GotoTaken :
    (heldHub.ready = true ∧ heldHub.seqr.swap = none ∧ heldHub.op ≠ .run)
      ∧ (threeReplied.ready = true ∧ threeReplied.seqr.swap = none ∧ threeReplied.op = .run
          ∧ threeReplied.seqr.designation = some .a ∧ positionOf 11 0 = none)
      ∧ (positionOf 10 7 = some (10, 7) ∧ threeReplied.entryAt ⟨.a, profileRow 10, 7⟩ = none)
      ∧ (positionOf 0 0 = some (0, 0) ∧ (threeReplied.entryAt ⟨.a, profileRow 0, 0⟩).isSome)
      ∧ (busyRun.seqr.goto = some (10, 7) ∧ busyRun.seqr.designation = some .a
          ∧ busyRun.entryAt ⟨.a, profileRow 10, 7⟩ = none)
      ∧ (let s := { running with seqr := { running.seqr with goto := some (0, 0) } }
         s.seqr.goto = some (0, 0) ∧ (s.entryAt ⟨.a, profileRow 0, 0⟩).isSome) := by decide

/-- The tables' statements: CONFIG with the lock clear, CONFIG with it set, RUN and HELD, each ready. -/
theorem witness_tables :
    (awake.ready = true ∧ awake.op = .config ∧ awake.guard.lock = false)
      ∧ (let s := { awake with guard := { awake.guard with lock := true } }
         s.ready = true ∧ s.op = .config ∧ s.guard.lock = true)
      ∧ (threeReplied.ready = true ∧ threeReplied.op = .run) ∧ (heldHub.ready = true ∧ heldHub.op = .held) := by decide

theorem witness_CellTableWritten :
    awake.ready = true ∧ awake.op = .config ∧ running.ready = true ∧ running.op ≠ .config
      ∧ (4 : Byte).toNat = (4 : Fin 5).val ∧ (5 : Byte).toNat ≥ 5 ∧ (0 : Byte).toNat = (0 : Fin 5).val := by decide

theorem witness_PointTablesWritten :
    awake.ready = true ∧ awake.op = .config ∧ heldHub.ready = true ∧ heldHub.op ≠ .config
      ∧ (15 : Byte).toNat = (15 : Fin 16).val ∧ (16 : Byte).toNat ≥ 16 ∧ (7 : Byte).toNat = (7 : Fin 8).val
      ∧ (8 : Byte).toNat ≥ 8 ∧ (ocvMarked ocvs).valid = true ∧ (derateMarked derates).valid = true := by decide

theorem witness_GuardAndBalanceTablesWritten :
    awake.ready = true ∧ awake.op = .config ∧ running.ready = true ∧ running.op ≠ .config
      ∧ (7 : Byte).toNat = (7 : Fin 8).val ∧ (8 : Byte).toNat ≥ 8 ∧ (6 : Byte).toNat = (6 : Fin 7).val
      ∧ (7 : Byte).toNat ≥ 7 := by decide

theorem witness_LimitTableWritten :
    (awake.ready = true ∧ awake.op = .config ∧ awake.guard.lock = false ∧ (5 : Byte).toNat = (5 : Fin 6).val)
      ∧ (running.ready = true ∧ running.op = .run ∧ (5 : Byte).toNat < 6 ∧ (6 : Byte).toNat ≥ 6)
      ∧ (heldHub.ready = true ∧ heldHub.op = .held)
      ∧ (let s := { awake with guard := { awake.guard with lock := true } }
         s.ready = true ∧ s.op = .config ∧ s.guard.lock = true) := by decide

theorem witness_ProtectedTables :
    (heldHub.quiet = true ∧ seen (exec (.loadTableLimit 1 0 4600) heldHub) (fun t => decide (t.guard.limits ≠ heldHub.guard.limits))
        = some true)
      ∧ (running.quiet = true ∧ running.activeBank = some .a
          ∧ (seen (exec (.loadStep 1 0 0 0 topOffBytes) running) (fun t => t.op)).isSome) := by decide

theorem witness_RouteTableWritten :
    awake.ready = true ∧ (12 : Byte).toNat ≥ 12 ∧ (0x0206 : Word).toNat / 2 % 4 = 3
      ∧ ((11 : Byte).toNat = (11 : Fin 12).val ∧ Pass.plain.code = (0x4003 : Word).toNat / 2 % 4)
      ∧ ((0 : Byte).toNat = (0 : Fin 12).val ∧ Pass.annotated.code = (0x0205 : Word).toNat / 2 % 4 ∧ (0 : Fin 12).val % 3 = 0)
      ∧ ((1 : Byte).toNat = (1 : Fin 12).val ∧ (0x0100 : Word).getLsbD 0 = false
          ∧ Pass.off.code = (0x0100 : Word).toNat / 2 % 4) := by decide

theorem witness_TableRead :
    threeReplied.ready = true ∧ (7 : Byte).toNat ≥ 7 ∧ (4 : Byte).toNat = (4 : Fin 5).val
      ∧ (15 : Byte).toNat = (15 : Fin 16).val ∧ (11 : Byte).toNat = (11 : Fin 12).val ∧ (12 : Byte).toNat ≥ 12
      ∧ (5 : Byte).toNat = (5 : Fin 6).val ∧ (6 : Byte).toNat = (6 : Fin 7).val ∧ (7 : Byte).toNat = (7 : Fin 8).val := by
  decide

theorem witness_LockAndOverride :
    (awake.ready = true ∧ awake.op ≠ .run ∧ (2 : Byte) ≠ 0 ∧ (255 : Byte) ≠ 1) ∧ (running.ready = true ∧ running.op = .run
        ∧ running.guard.causes.hostSet = false ∧ running.profiled = true ∧ running.cells.lastRound = none)
      ∧ (measured.ready = true ∧ measured.op = .run ∧ measured.guard.causes.hostSet = false ∧ measured.profiled = true
          ∧ measured.cells.lastRound.isSome ∧ measured.cmd.nodes.get .s4 = .empty)
      ∧ (let s := { running with guard := { running.guard with causes := { Causes.none with hostSet := true } } }
         s.ready = true ∧ s.op = .run ∧ s.guard.causes.hostSet = true) := by decide

theorem witness_StartRuns :
    (loaded.ready = true ∧ loaded.op = .config ∧ addressOf 0 1 2 = some ⟨.a, 1, 2⟩
        ∧ loaded.startFailure ⟨.a, 1, 2⟩ = none ∧ loaded.entryAt ⟨.a, 1, 2⟩ = some topOff
        ∧ loaded.guard.causes = Causes.none ∧ loaded.cells.lastRound = none)
      ∧ (let s := { loaded with guard := { loaded.guard with linkMark := true } }
         s.ready = true ∧ s.guard.linkMark = true ∧ s.startFailure ⟨.a, 1, 2⟩ = none)
      ∧ (let s := holding { loaded with
                              cells := { cellsOn with lastRound := some (roundOf 4000 3990 250 250 0 500 500) } }
         s.ready = true ∧ s.startFailure ⟨.b, 0, 0⟩ = none ∧ s.entryAt ⟨.b, 0, 0⟩ = some constantCurrent
          ∧ s.link.sendingU.isSome ∧ s.out.replies = [] ∧ s.cells.lastRound.isSome) := by decide

theorem witness_StartRefused :
    (running.ready = true ∧ running.op ≠ .config)
      ∧ (loaded.ready = true ∧ loaded.op = .config ∧ addressOf 2 0 0 = none
          ∧ addressOf 0 11 0 = some ⟨.a, 11, 0⟩ ∧ addressOf 0 10 7 = some ⟨.a, 10, 7⟩
          ∧ loaded.entryAt ⟨.a, 10, 7⟩ = none)
      ∧ (let s := { loaded with seqr := { loaded.seqr with bankA := setBankEntry profile 11 7 none } }
         s.ready = true ∧ (s.entryAt ⟨.a, 0, 0⟩).isSome ∧ bankEntry (s.seqr.bank .a) 11 7 = none
          ∧ ∀ j : Fin 8, j < 7 → (bankEntry (s.seqr.bank .a) 11 j).isSome)
      ∧ (∀ j : Fin 8, (bankEntry (loaded.seqr.bank .a) 11 j).isSome)
      ∧ (let s := { loaded with path := State.reset.path }; s.ready = true ∧ s.path.derate.valid = false)
      ∧ (let s := { loaded with cells := { cellsOn with ocv := emptyPoints 16 } }
         s.ready = true ∧ s.path.derate.valid = true ∧ s.cells.ocv.valid = false) := by decide

theorem witness_StartRefused_cells :
    (let s := { loaded with cells := { cellsOn with table := #v[2250, 0, 50, 900, 30] } }
     s.ready = true ∧ s.cells.capacity .one ≠ 0 ∧ s.cells.capacity .two = 0)
      ∧ (let s := { loaded with cells := { cellsOn with table := #v[0, 0, 50, 900, 30] } }
         s.ready = true ∧ s.cells.capacity .one = 0)
      ∧ (let s := withOne fun r => { r with known := false }; s.ready = true ∧ (s.cell .one).known = false)
      ∧ (let s := loaded.setCell .two { loaded.cell .two with known := false }
         s.ready = true ∧ (s.cell .one).known = true ∧ (s.cell .two).known = false)
      ∧ (let s := { loaded with guard := { loaded.guard with table := loaded.guard.table.set 0 4550 } }
         s.ready = true ∧ s.guard.softOv ≥ s.guard.hardOv)
      ∧ (let s := { loaded with balance := { loaded.balance with table := loaded.balance.table.set 1 20 } }
         s.ready = true ∧ s.guard.softOv < s.guard.hardOv ∧ s.guard.softUv > s.guard.hardUv
          ∧ s.guard.chgTmax < s.guard.hardOt ∧ s.balance.shuttleStop ≥ s.balance.shuttleStart) := by decide

theorem witness_StopLeavesRun :
    (heldHub.ready = true ∧ heldHub.op ≠ .run)
      ∧ (busyRun.ready = true ∧ busyRun.op = .run ∧ busyRun.balance.shuttle.active = true
          ∧ busyRun.cmd.nodes.get .s4 = .empty)
      ∧ (twoSetpoints.ready = true ∧ twoSetpoints.op = .run ∧ twoSetpoints.balance.shuttle.active = false
          ∧ twoSetpoints.cmd.nodes.get .s4 ≠ .empty) := by decide

theorem witness_HoldEnters :
    (awake.ready = true ∧ awake.op ≠ .run) ∧ (busyRun.ready = true ∧ busyRun.op = .run
        ∧ busyRun.balance.shuttle.active = true ∧ busyRun.cmd.nodes.get .s4 = .empty)
      ∧ (twoSetpoints.ready = true ∧ twoSetpoints.op = .run ∧ twoSetpoints.cmd.nodes.get .s4 ≠ .empty)
      ∧ ((holding running).ready = true ∧ (holding running).op = .run ∧ (holding running).link.sendingU.isSome
          ∧ (holding running).out.replies = [] ∧ (holding running).seqr.swap = none) := by decide

theorem witness_ResumePlaces :
    (heldHub.ready = true ∧ heldHub.profiled = true ∧ heldHub.seqr.stored = some ⟨.a, 1, 0⟩ ∧ heldHub.op = .held
        ∧ heldHub.entryAt ⟨.a, 1, 0⟩ = some constantCurrent ∧ heldHub.entryAt ⟨.a, 0, 0⟩ = some constantCurrent
        ∧ heldHub.hold.pendingHold = none ∧ heldHub.guard.causes = Causes.none ∧ heldHub.cells.lastRound = none
        ∧ (holding heldHub).ready = true ∧ (holding heldHub).link.sendingU.isSome)
      ∧ (let s := { heldHub with cells := measured.cells, guard := threeBad.guard, cmd := twoSetpoints.cmd }
         s.ready = true ∧ s.profiled = true ∧ s.op = .held ∧ s.hold.pendingHold = none ∧ s.guard.causes ≠ Causes.none
          ∧ s.cells.lastRound.isSome ∧ s.cmd.nodes.get .s4 ≠ .empty)
      ∧ (positionOf 2 0 = some (2, 0) ∧ heldHub.entryAt ⟨.a, profileRow 2, 0⟩ = some finished)
      ∧ (running.ready = true ∧ running.profiled = true ∧ running.seqr.stored = some ⟨.a, 1, 0⟩ ∧ running.op ≠ .held)
      ∧ (let s := { heldHub with
                      hold := { heldHub.hold with pendingHold := some ⟨.host, .host, .absent, none, false⟩ } }
         s.ready = true ∧ s.profiled = true ∧ s.op = .held
          ∧ s.hold.pendingHold = some ⟨.host, .host, .absent, none, false⟩)
      ∧ (let s := { heldHub with seqr := { heldHub.seqr with bankA := setBankEntry profile 0 0 none } }
         s.ready = true ∧ s.op = .held ∧ s.seqr.designation = some .a ∧ s.entryAt ⟨.a, 0, 0⟩ = none)
      ∧ (positionOf 11 0 = none ∧ positionOf 10 7 = some (10, 7)
          ∧ heldHub.entryAt ⟨.a, profileRow 10, 7⟩ = none) := by decide

theorem witness_ResumeStopLeaves :
    (running.ready = true ∧ running.op ≠ .held) ∧ (heldHub.ready = true ∧ heldHub.op = .held
      ∧ heldHub.cmd.nodes.get .s4 = .empty)
      ∧ (let s := { heldHub with cmd := twoSetpoints.cmd }; s.ready = true ∧ s.op = .held ∧ s.cmd.nodes.get .s4 ≠ .empty) := by
  decide

theorem witness_OfferTaken :
    (loaded.ready = true ∧ loaded.path.present = true ∧ (3 : Byte).toNat = (3 : Fin 4).val ∧ (4 : Byte).toNat > 3)
      ∧ (awake.ready = true ∧ awake.path.present = false ∧ (3 : Byte).toNat ≤ 3) := by decide

theorem witness_AcceptAndWithdraw :
    (awake.ready = true ∧ awake.path.pendingOffer = none)
      ∧ (offered.ready = true ∧ offered.path.pendingOffer = some ⟨9000, 3000, 2⟩) := by decide

theorem witness_ShipTaken :
    (running.ready = true ∧ running.op ≠ .config)
      ∧ (let s := { awake with path := { awake.path with ship := true } }
         s.ready = true ∧ s.op = .config ∧ s.path.ship = true)
      ∧ (awake.ready = true ∧ awake.op = .config ∧ awake.path.ship = false ∧ awake.cmd.nodes.get .s4 = .empty)
      ∧ (let s := { awake with cmd := { awake.cmd with nodes := { awake.cmd.nodes with s4 := .command 0 1 39 } } }
         s.ready = true ∧ s.path.ship = false ∧ s.cmd.nodes.get .s4 ≠ .empty) := by decide

theorem witness_ShuttleStarted :
    (awake.ready = true ∧ awake.balance.shuttle.active = false ∧ awake.op ≠ .run
        ∧ (0 : Byte) ≠ 1 ∧ (3 : Byte) ≠ 2)
      ∧ (running.ready = true ∧ running.balance.shuttle.active = false ∧ running.op = .run
          ∧ running.guard.causes = Causes.none ∧ (1 : Byte).toNat = cellNumber .one ∧ (2 : Byte).toNat = cellNumber .two
          ∧ running.cmd.nodes.get .s4 = .empty)
      ∧ (twoSetpoints.ready = true ∧ twoSetpoints.balance.shuttle.active = false ∧ twoSetpoints.op = .run
          ∧ twoSetpoints.guard.causes = Causes.none ∧ twoSetpoints.cmd.nodes.get .s4 ≠ .empty)
      ∧ ((0 : Word).toNat * 2 ^ (255 : Byte).toNat = 0 ∧ (1 : Word).toNat * 2 ^ (0 : Byte).toNat ≠ 0)
      ∧ ((holding running).ready = true ∧ (holding running).link.sendingU.isSome ∧ (holding running).out.replies = []) := by
  decide

/-- Hand-overs that meet the cases of the first part: reversal, a permission lost, neither, a start called for with and without
a bleed on, and none called for. -/
theorem witness_ShuttleStarted_decisions :
    let at' (origin : Origin) (lead : Int) : State :=
      { running with
        balance :=
          { running.balance with
            shuttle := { shuttleReset with active := true, origin := origin, source := some .one, lead := lead } } }
    let back := roundOf 3900 3890 250 250 0 580 620
    let bled : State := { running with balance := { running.balance with bleeds := ⟨⟨true, .auto, 0⟩, bleedReset⟩ } }
    ((at' .auto 35).balance.shuttle.active = true ∧ back.lead .one < 0 ∧ back.lead .one ≤ -running.balance.shuttleStop)
      ∧ ((at' .auto 0).balance.shuttle.origin = .auto ∧ ¬ (0 : Int) > 0) ∧ (at' .host 0).balance.shuttle.origin ≠ .auto
      ∧ (running.balance.shuttle.cooldown = none ∧ |(620 : Int) - 585| ≥ running.balance.shuttleStart
          ∧ running.anyBleed = false ∧ bled.anyBleed = true ∧ ¬ |(590 : Int) - 585| ≥ running.balance.shuttleStart) := by
  decide

theorem witness_BleedAndStop :
    ((0 : Byte) ≠ 1 ∧ (0 : Byte) ≠ 2 ∧ (2 : Byte) ≠ 0 ∧ (2 : Byte) ≠ 1)
      ∧ (threeBad.ready = true ∧ threeBad.op = .run ∧ threeBad.guard.causes ≠ Causes.none)
      ∧ (busyRun.ready = true ∧ busyRun.op = .run ∧ busyRun.guard.causes = Causes.none
          ∧ busyRun.balance.shuttle.active = true ∧ busyRun.cmd.nodes.get .s4 = .empty)
      ∧ (running.ready = true ∧ running.op = .run ∧ running.guard.causes = Causes.none
          ∧ running.balance.shuttle.active = false)
      ∧ (let s := { running with balance := { running.balance with bleeds := ⟨bleedReset, ⟨true, .auto, 255⟩⟩ } }
         s.ready = true ∧ (s.balance.bleeds.get .two).on = true ∧ (s.balance.bleeds.get .one).on = false)
      ∧ ((holding running).ready = true ∧ (holding running).link.sendingU.isSome ∧ (holding running).out.replies = []) := by
  decide

/-- Hand-overs that meet the cases of the bleed decision: a cell switched on, one switched off, one left; and a sample whose
flag disagrees. -/
theorem witness_BleedAndStop_decisions :
    let bled (o : Origin) : State :=
      { running with balance := { running.balance with bleeds := ⟨⟨true, o, 0⟩, bleedReset⟩ } }
    let r := roundOf 4300 4299 250 250 0 510 500
    ((bled .auto).balance.bleeds.get .one).on = true ∧ r.voltage .one ≥ running.balance.bleedVoltage
      ∧ r.lead .one ≥ running.balance.bleedStart ∧ ¬ r.lead .one ≤ running.balance.shuttleStop
      ∧ (roundOf 4300 4299 250 250 0 505 500).lead .one ≤ running.balance.shuttleStop
      ∧ ((bled .host).balance.bleeds.get .one).origin ≠ .auto ∧ true ≠ (running.balance.bleeds.get .two).on := by decide

theorem witness_ChargeSet :
    (awake.ready = true ∧ awake.balance.shuttle.active = false ∧ (2 : Byte).toNat = cellNumber .two
        ∧ awake.cells.capacity .two = 0 ∧ (3 : Byte) ≠ 1 ∧ (3 : Byte) ≠ 2)
      ∧ (loaded.ready = true ∧ loaded.balance.shuttle.active = false ∧ loaded.cells.capacity .two ≠ 0)
      ∧ ((1001 : Word).toNat > 1000 ∧ ¬ (1000 : Word).toNat > 1000)
      ∧ ((65535 : Word).toNat * 2 ^ (21 : Byte).toNat > loaded.cells.capacity .two * 36000000
          ∧ ¬ (0 : Word).toNat * 2 ^ (255 : Byte).toNat > loaded.cells.capacity .two * 36000000) := by decide

theorem witness_QueryAnswered :
    threeReplied.ready = true ∧ (6 : Byte).toNat > 5 ∧ (5 : Byte).toNat ≤ 5 ∧ (2 : Byte).toNat = cellNumber .two
      ∧ 19 * (0 : Byte).toNat < (encodeFields threeReplied.offersFields).length
      ∧ 19 * (255 : Byte).toNat ≥ (encodeFields threeReplied.offersFields).length := by decide

theorem witness_CommandTimersExpire :
    (let s := { fullQueue with cmd := { fullQueue.cmd with held := fullQueue.cmd.held.take 1 } }
     let c : HeldCommand := { heldAt 0 60 [19, 1, 0, 1, 244] .waiting with wait := some 5 }
     s.rst = false ∧ (s.cmd.held.map (·.place)).Nodup ∧ s.head = some c ∧ c.wait.isSome ∧ s.blockedOn c = some .shuttle
      ∧ ∀ d ∈ s.cmd.held, d.state = .waiting → d = c)
      ∧ (nodeAsked.rst = false ∧ (nodeAsked.cmd.held.map (·.place)).Nodup ∧ nodeAsked.head = none
          ∧ nodeAsked.cmd.nodes.get .m2 = .command 0 61 12 ∧ (holding nodeAsked).link.sendingU.isSome)
      ∧ (let s := { nodeAsked with cmd := { nodeAsked.cmd with nodes := { awake.cmd.nodes with s4 := .command 0 61 40 } } }
         s.rst = false ∧ s.head = none ∧ s.cmd.nodes.get .s4 = .command 0 61 40 ∧ s.path.slot = none)
      ∧ (let s := { twoSetpoints with cmd := { running.cmd with nodes := { running.cmd.nodes with s4 := .command 3 7 39 } } }
         s.rst = false ∧ s.head = none ∧ s.cmd.nodes.get .s4 = .command 3 7 39
          ∧ s.path.slot = some ⟨.charge, 1500, .off, 0, .run⟩)
      ∧ (let c : HeldCommand := { heldAt 0 60 [9, 1] .waiting with wait := some 250 }
         let d : HeldCommand := heldAt 1 61 [10, 1, 2] .waiting
         let s := { busyRun with cmd := { busyRun.cmd with held := [c, d] } }
         s.rst = false ∧ (s.cmd.held.map (·.place)).Nodup ∧ s.head = some c ∧ s.blockedOn c = some .banks
          ∧ c.dest = 0 ∧ c.payload.head? = some 9 ∧ (s.blockedOn d).isSome) := by decide

theorem witness_AnswerTimesOut :
    let sent : SentSetpoint := ⟨⟨.charge, 1000, .off, 0, .run⟩, 8⟩
    let asked (s : State) : State := { s with cmd := { s.cmd with nodes := { s.cmd.nodes with s4 := .setpoint sent 40 } } }
    (twoSetpoints.quiet = true ∧ twoSetpoints.op = .run ∧ twoSetpoints.cmd.nodes.get .s4 = .setpoint sent 39)
      ∧ ((asked awake).quiet = true ∧ (asked awake).cmd.nodes.get .s4 = .setpoint sent 40 ∧ awake.op = .config
          ∧ awake.path.slot = none)
      ∧ ((asked heldHub).quiet = true ∧ (asked heldHub).cmd.nodes.get .s4 = .setpoint sent 40 ∧ heldHub.op = .held
          ∧ heldHub.hold.pendingHold = none)
      ∧ (let s := { asked heldHub with
                      hold := { heldHub.hold with pendingHold := some ⟨.host, .host, .absent, none, false⟩ }
                      path := { heldHub.path with slot := some ⟨.adapter, 0, .off, 0, .held⟩ } }
         s.quiet = true ∧ s.op = .held ∧ s.hold.pendingHold.isSome ∧ s.path.slot = some ⟨.adapter, 0, .off, 0, .held⟩) := by
  decide

theorem witness_CellTimersExpire :
    (awake.quiet = true ∧ (awake.cell .one).rest.isSome)
      ∧ (loaded.quiet = true ∧ (loaded.cell .two).staleness.isSome ∧ loaded.op = .config)
      ∧ (running.quiet = true ∧ (running.cell .one).staleness.isSome ∧ running.op = .run
          ∧ running.guard.causes.stale = false ∧ running.profiled = true ∧ running.cells.lastRound = none)
      ∧ (measured.quiet = true ∧ (measured.cell .two).staleness.isSome ∧ measured.guard.causes.stale = false
          ∧ measured.profiled = true ∧ measured.cells.lastRound.isSome ∧ measured.op = .run)
      ∧ (heldHub.quiet = true ∧ (heldHub.cell .one).staleness.isSome ∧ heldHub.op = .held
          ∧ heldHub.guard.causes.stale = false)
      ∧ (let s := { running with cells := { cellsOn with input := { inputRecordReset with staleness := some 0 } } }
         s.quiet = true ∧ s.cells.input.staleness.isSome ∧ s.path.present = true ∧ s.op = .run
          ∧ s.cmd.nodes.get .s4 = .empty)
      ∧ (let s := { loaded with
                      cells := { cellsOn with input := { inputRecordReset with staleness := some 0 } }
                      cmd := twoSetpoints.cmd }
         s.quiet = true ∧ s.cells.input.staleness.isSome ∧ s.path.present = true ∧ s.op ≠ .run
          ∧ s.cmd.nodes.get .s4 ≠ .empty)
      ∧ (let s := { awake with cells := { cellsOn with input := { inputRecordReset with staleness := some 0 } } }
         s.quiet = true ∧ s.cells.input.staleness.isSome ∧ s.path.present = false) := by decide

theorem witness_DwellExpires :
    let at' (c : Fin 8) : State :=
      { running with seqr := { running.seqr with stored := some ⟨.a, 1, c⟩, dwell := .running 0 } }
    ((at' 2).quiet = true ∧ (at' 2).seqr.dwell = .running 0 ∧ (at' 2).seqr.stored = some ⟨.a, 1, 2⟩
        ∧ (at' 2).entryAt ⟨.a, 1, 2⟩ = some topOff ∧ topOff.gate = .untilD
        ∧ (at' 2).op = .run ∧ (at' 2).cmd.nodes.get .s4 = .empty ∧ twoSetpoints.cmd.nodes.get .s4 ≠ .empty)
      ∧ ((at' 0).quiet = true ∧ (at' 0).entryAt ⟨.a, 1, 0⟩ = some constantCurrent ∧ constantCurrent.gate ≠ .untilD) := by
  decide

theorem witness_ShuttleTimersExpire :
    (awake.quiet = true ∧ awake.op ≠ .run ∧ awake.balance.shuttle.active = false)
      ∧ (busyRun.quiet = true ∧ busyRun.balance.shuttle.active = true ∧ busyRun.op = .run
          ∧ busyRun.cmd.nodes.get .s4 = .empty ∧ (holding busyRun).link.sendingU.isSome)
      ∧ ({ busyRun with cmd := twoSetpoints.cmd }.cmd.nodes.get .s4 ≠ .empty)
      ∧ (let x : Shuttle := { busyRun.balance.shuttle with remaining := 60000 }
         x.active = true ∧ x.source = some .one ∧ x.remaining - ((300 : Int).natAbs * 200 : Nat) ≤ 0
          ∧ x.remaining - ((299 : Int).natAbs * 200 : Nat) > 0 ∧ x.source ≠ some .two) := by decide

theorem witness_FramesSent :
    (let s := { nodeAsked with link := { awake.link with sendingU := some ⟨⟨15, 2, 7, 200, []⟩, some 0⟩ } }
     s.quiet = true ∧ s.link.sendingU = some ⟨⟨15, 2, 7, 200, []⟩, some 0⟩)
      ∧ (let s := holding awake; s.quiet = true ∧ s.link.sendingU = busyU)
      ∧ (awake.link.sendingU = none ∧ awake.out = ⟨[], [], []⟩)
      ∧ (let r : Reply := ⟨some 0, .ok, 9, []⟩
         let u : UpFrame := ⟨⟨15, 1, 1, 7, []⟩, none⟩
         let placed (a : List Alert) (l : List Reply) : State := { awake with out := ⟨a, l, [u]⟩ }
         (placed [⟨.hold, []⟩] [r]).out.alerts = ⟨.hold, []⟩ :: [] ∧ (placed [] [r]).out.replies = r :: []
          ∧ (placed [] []).out.forward = u :: [] ∧ (placed [] []).link.sendingU = none) := by decide

/-- States that meet the invariants and take a step, where the invariants' conclusions are not empty. -/
theorem witness_StepKeepsSettled :
    fullQueue.settled ∧ fullQueue.head.isSome ∧ seen (step fullQueue) (fun _ => true) = some true := by decide

theorem witness_StepKeepsGate :
    twoSetpoints.gateLaw ∧ twoSetpoints.slotLaw ∧ twoSetpoints.gate = true ∧ twoSetpoints.path.slot.isSome
      ∧ seen (step twoSetpoints) (fun _ => true) = some true := by
  refine ⟨fun _ => ⟨rfl, _, rfl, rfl, by decide⟩, ?_⟩
  decide

theorem witness_StepKeepsBalance :
    fullQueue.balanceLaw ∧ busyRun.balanceLaw ∧ busyRun.balance.shuttle.active = true
      ∧ seen (step busyRun) (fun _ => true) = some true := by decide

theorem witness_StepKeepsProfile :
    busyRun.profileLaw ∧ busyRun.seqr.swap.isSome ∧ heldHub.profileLaw
      ∧ seen (step heldHub) (fun _ => true) = some true := by decide

theorem witness_StepKeepsQueues :
    fullQueue.queueLaw ∧ fullQueue.cmd.held.length = 4 ∧ seen (step fullQueue) (fun _ => true) = some true := by decide

theorem witness_CommandsReadBack :
    HubCommand.loadStep 0 11 7 topOffBytes ≠ .badArguments ∧ HubCommand.loadStep 0 11 7 topOffBytes ≠ .unknown
      ∧ HubCommand.loadStep 0 11 7 topOffBytes ≠ .resume 3
      ∧ (encodeCommand (.loadStep 0 11 7 topOffBytes)).length ≤ 24 := by decide

theorem witness_NodeFramesReadBack :
    (List.replicate 24 (255 : Byte)).length ≤ 24
      ∧ (0 : Byte) ≠ crc (Frame.body ⟨0, 1, 7, 1, []⟩) := by decide

theorem witness_ComputationBounded :
    let s := workedCase (some ⟨9000, 3000, 2⟩) 1200
    ((∃ h r, s.path.handOver = some h ∧ h.summary = some r) ∧ (25 : Int) ∣ 1200)
      ∧ (0 ≤ s.guard.hardIchg ∧ 0 ≤ s.guard.hingeImax ∧ 0 ≤ s.guard.slew ∧ s.path.present = true
          ∧ (awake.path.handOver = none ∧ awake.path.present = false)
          ∧ (workedCase none 1200).compute.supplement = true ∧ s.compute.supplement = false
          ∧ (let h : HandOver := ⟨none, ⟨.a, 1, 2⟩, 1000, 4450, 100, .charge, .untilD, none, false, true⟩
             let s' := { s with path := { s.path with handOver := some h } }
             s'.path.handOver = some h ∧ h.summary = none ∧ h.gate = .untilD ∧ h.d = true)) := by
  refine ⟨⟨⟨_, _, rfl, rfl⟩, by decide⟩, ?_⟩
  decide

theorem witness_InterpolationReads :
    risesStrictly derates.toList = true ∧ derates.toList = ⟨0, 0⟩ :: derates.toList.drop 1
      ∧ derates.toList = derates.toList.take 7 ++ [⟨550, 0⟩]
      ∧ derates.toList = derates.toList.take 3 ++ ⟨350, 100⟩ :: ⟨400, 80⟩ :: derates.toList.drop 5
      ∧ risesStrictly loaded.path.derate.points.toList = true
      ∧ (∀ p ∈ loaded.path.derate.points.toList, 0 ≤ p.y ∧ p.y ≤ 100) ∧ (0 : Int) ≤ 4000 := by decide

theorem witness_ScaledChargeRounds :
    (65535 < 65536) ∧ (0 < 1 ∧ 65536 < 65536 * 2 ^ 1 ∧ 65536 * 2 ^ 0 ≤ 65536) ∧ (131071 + 2 ^ 0) / 2 ^ 1 = 65536 := by decide

theorem witness_FlagRulesUpdateT :
    (threeBad.seqr.goto = none ∧ threeBad.guard.causes ≠ Causes.none)
      ∧ (running.seqr.goto = none ∧ running.guard.causes = Causes.none ∧ running.seqr.stored = some ⟨.a, 1, 0⟩
          ∧ running.entryAt ⟨.a, 1, 0⟩ = some constantCurrent ∧ constantCurrent.next = .advance)
      ∧ (running.entryAt ⟨.a, 1, 2⟩ = some topOff ∧ topOff.next = .onD 2 0
          ∧ running.entryAt ⟨.a, 2, 0⟩ = some finished ∧ finished.next = .onTRow 1)
      ∧ offered.path.pendingOffer = some ⟨9000, 3000, 2⟩
      ∧ (∀ k : Fin 8, (bankEntry (running.seqr.bank .b) 11 k).isSome) ∧ (running.entryAt ⟨.b, 1, 0⟩).isSome := by decide

theorem witness_QueuesMakeRoom :
    let f : UpFrame := ⟨⟨0, 1, 1, 7, []⟩, none⟩
    let s := { awake with out := { awake.out with forward := List.replicate 8 f } }
    s.out.forward.length = 8 ∧ (∃ x ∈ s.out.forward, x.nodeReply = false) ∧ f.measured = true
      ∧ s.out.forward = [] ++ f :: List.replicate 7 f ∧ (([⟨.hold, []⟩, ⟨.step, []⟩] : List Alert).map (·.kind)).Nodup := by
  decide

end Sys2Proof.Tests
end

section
/-! SUPPORT. Step sequencing: stages 2 and 3 of a round evaluation, the evaluations on the last round, the dwell timer, and the
commands that move the sequencer between its states (R45 to R64, R73 to R85, R142 to R153, R172, R187). -/

namespace Sys2Proof.Sequencing

open Sys2Proof.Machine

/-! ## Entering a step fresh and the dwell timer -/

/-- The dwell timer as R57 has it: running while the hub is in RUN with an empty cause set, paused otherwise. -/
def syncedDwell (op : OpState) (g : Causes) : DwellTimer → DwellTimer
  | .running ms => if op = .run ∧ g = Causes.none then .running ms else .paused ms
  | .paused ms => if op = .run ∧ g = Causes.none then .running ms else .paused ms
  | .noDwell => .noDwell
  | .expired => .expired

theorem isEmpty_iff (g : Causes) : g.isEmpty = true ↔ g = Causes.none := by simp [Causes.isEmpty]

/-- The dwell timer's synchronisation writes the timer and nothing else (R57). -/
theorem dwellSync_eq (s : State) :
    s.dwellSync = { s with seqr.dwell := syncedDwell s.op s.guard.causes s.seqr.dwell } := by
  obtain ⟨_, _, _, _, _, _, _, _, _, _, q, _, _, _, _⟩ := s
  obtain ⟨_, _, _, _, _, _, _, _, _, dwell, _, _⟩ := q
  cases dwell <;> simp only [State.dwellSync, syncedDwell, isEmpty_iff] <;> split <;> rfl

/-- The timer paused where it ran (R47, R57). -/
def pausedDwell : DwellTimer → DwellTimer
  | .running ms => .paused ms
  | .paused ms => .paused ms
  | .noDwell => .noDwell
  | .expired => .expired

/-- Outside RUN, or with a cause in the set, the synchronised timer is the paused one. -/
theorem syncedDwell_paused {op : OpState} {g : Causes} (h : ¬ (op = .run ∧ g = Causes.none)) (w : DwellTimer) :
    syncedDwell op g w = pausedDwell w := by
  cases w <;> simp [syncedDwell, pausedDwell, h]

/-- What a fresh entry writes (R45). -/
theorem enterFresh_entered (s : State) (a : StepAddr) :
    (s.enterFresh a).seqr.t = false ∧ (s.enterFresh a).seqr.d = false ∧ (s.enterFresh a).seqr.stored = some a
      ∧ (s.enterFresh a).seqr.firstEval = true ∧ (s.enterFresh a).seqr.lastTest = none := by
  simp [State.enterFresh]

/-! ## Stage 3 -/

/-- A cause in the set leaves the stored step alone (R49). -/
theorem stageStep_withCauses (s : State) (r : Summary) (hg : s.seqr.goto = none)
    (hc : s.guard.causes ≠ Causes.none) : s.stageStep r = .ok s none := by
  simp [State.stageStep, hg, isEmpty_iff, hc]

/-- With the set empty the stored step is worked on (R48). -/
theorem stageStep_works (s : State) (r : Summary) {a : StepAddr} {e : StepEntry} (hg : s.seqr.goto = none)
    (hc : s.guard.causes = Causes.none) (hs : s.seqr.stored = some a) (he : s.entryAt a = some e) :
    s.stageStep r = s.workStep r a e := by
  simp [State.stageStep, hg, isEmpty_iff, hc, hs, State.storedEntry, he]

/-- A pending GOTO is applied whatever the cause set (R49, R64). -/
theorem stageStep_goto (s : State) (r : Summary) {q : Fin 11} {k : Fin 8} (hg : s.seqr.goto = some (q, k)) :
    s.stageStep r = s.applyGoto q k := by
  simp [State.stageStep, hg]

/-- A move to a position of the stored step's bank: none to the position itself, blocked by an empty target, and otherwise
the target entered fresh, after the promotion where the rule promotes (R45, R60, R62). -/
theorem takeMove_to (s : State) (a : StepAddr) (k : Nat) (target : StepAddr) (p : Bool) (hb : target.bank = a.bank) :
    let from' := if p then s.promote else s
    (target = a → s.takeMove a k (.to target.row target.col p) = .ok from' none)
      ∧ (target ≠ a → s.entryAt target = none → s.takeMove a k (.to target.row target.col p) = .blocked s target)
      ∧ (target ≠ a → (s.entryAt target).isSome →
          s.takeMove a k (.to target.row target.col p)
            = .ok (from'.enterFresh target) (some ⟨some a, k, s.seqr.lastTest⟩)) := by
  obtain ⟨id, row, col⟩ := target
  subst hb
  refine ⟨fun h => by simp [State.takeMove, h], fun h he => by simp [State.takeMove, h, he], fun h he => ?_⟩
  have hn : (s.entryAt ⟨a.bank, row, col⟩).isNone = false := by simpa using he
  simp [State.takeMove, h, hn]

/-- A bank is complete exactly when every column of its override row is filled (R28). -/
theorem bankComplete_iff (b : Bank) : bankComplete b = true ↔ ∀ k : Fin 8, (bankEntry b overrideRow k).isSome := by
  have hall : ∀ k : Fin 8, k ∈ ([0, 1, 2, 3, 4, 5, 6, 7] : List (Fin 8)) := by decide
  simp only [bankComplete, lowestEmptyColumn, Option.isNone_iff_eq_none, List.find?_eq_none]
  exact ⟨fun h k => Option.isSome_iff_ne_none.mpr (h k (hall k)), fun h k _ => Option.isSome_iff_ne_none.mp (h k)⟩

/-- A switch: the other bank's target entered fresh and its bank designated, or blocked by an override row that is not
complete or by an empty target (R61, R62). -/
theorem takeMove_switch (s : State) (a : StepAddr) (k : Nat) (target : StepAddr) (hb : target.bank = a.bank.other) :
    s.takeMove a k (.switch target.row target.col)
      = if (∀ c : Fin 8, (bankEntry (s.seqr.bank target.bank) 11 c).isSome) ∧ (s.entryAt target).isSome then
          .ok (State.enterFresh { s with seqr.designation := some target.bank } target)
            (some ⟨some a, k, s.seqr.lastTest⟩)
        else .blocked s target := by
  obtain ⟨id, row, col⟩ := target
  subst hb
  simp only [State.takeMove, Bool.and_eq_true, bankComplete_iff]
  rfl

/-- The stored step after its test, T and the first-evaluation mark, before its next rule (R48). -/
def worked (s : State) (r : Summary) (e : StepEntry) : State :=
  { s with
    seqr.lastTest := some (stepTest e r s.path)
    seqr.t := updateT e.flagRule s.seqr.t s.seqr.firstEval (stepTest e r s.path)
    seqr.firstEval := false }

theorem workStep_eq (s : State) (r : Summary) (a : StepAddr) (e : StepEntry) :
    s.workStep r a e
      = (worked s r e).takeMove a e.next.code
          (moveOf e.next a (updateT e.flagRule s.seqr.t s.seqr.firstEval (stepTest e r s.path)) s.seqr.d
            s.path.pendingOffer) := rfl

/-- The step test, selector by selector (R54, R55). -/
theorem stepTest_eq (s : State) (r : Summary) (e : StepEntry) :
    stepTest e r s.path
      = match e.selector with
        | .none => false
        | .vhiGe => decide (max r.v1 r.v2 ≥ e.threshold)
        | .vloGe => decide (min r.v1 r.v2 ≥ e.threshold)
        | .vloLt => decide (min r.v1 r.v2 < e.threshold)
        | .ipackLe => decide (r.pack ≤ e.threshold)
        | .tmaxGe => decide (max r.t1 r.t2 ≥ e.threshold)
        | .tmaxLt => decide (max r.t1 r.t2 < e.threshold)
        | .dsocGe => decide (|(r.soc1 : Int) - r.soc2| ≥ e.threshold)
        | .socloGe => decide ((min r.soc1 r.soc2 : Int) ≥ e.threshold)
        | .offerPending => s.path.pendingOffer.isSome
        | .folded => r.fold
        | .inputPresent => r.present
        | .limited => decide ((match s.path.lastSetpoint with | some p => p.setpoint.charge | none => 0) < e.limit) := by
  have hs : s.path.slewRef = match s.path.lastSetpoint with | some p => p.setpoint.charge | none => 0 := by
    unfold PathUnit.slewRef
    cases s.path.lastSetpoint <;> rfl
  have hl : ((r.lowerSoc : Nat) : Int) = min (r.soc1 : Int) r.soc2 := by simp [Summary.lowerSoc]
  unfold stepTest
  cases e.selector <;> simp only [hs, hl] <;> rfl

/-- Settles O59, rule by rule: every next rule is a move of `moveOf`, and `takeMove_to` and `takeMove_switch` say what a move
comes to. -/
theorem flagRulesUpdateT : Obligations.FlagRulesUpdateT := by
  refine ⟨fun t first test => ⟨rfl, rfl, rfl, rfl⟩, enterFresh_entered, stageStep_withCauses, ?_⟩
  intro s r a e hg hc hs he test t work promoted entered moves stays
  have htest : stepTest e r s.path = test := stepTest_eq s r e
  have hwork : worked s r e = work := by simp only [worked, htest, work, t]
  have hstage : s.stageStep r = work.takeMove a e.next.code (moveOf e.next a t s.seqr.d s.path.pendingOffer) := by
    rw [stageStep_works s r hg hc hs he, workStep_eq, hwork, htest]
  have hstays (h : moveOf e.next a t s.seqr.d s.path.pendingOffer = .none) : stays := by
    rw [h] at hstage; exact hstage
  have hmoves (target : StepAddr) (p : Bool) (hb : target.bank = a.bank)
      (h : moveOf e.next a t s.seqr.d s.path.pendingOffer = .to target.row target.col p) :
      moves (if p then promoted else work) e.next.code target := by
    rw [h] at hstage
    simp only [moves, hstage]
    exact takeMove_to work a e.next.code target p hb
  have hon (c : Bool) (target : StepAddr) (hb : target.bank = a.bank)
      (h : moveOf e.next a t s.seqr.d s.path.pendingOffer = if c then .to target.row target.col false else .none) :
      if c then moves work e.next.code target else stays := by
    cases c with
    | false => exact hstays h
    | true => exact hmoves target false hb h
  refine ⟨fun hn => hstays (by rw [hn]; rfl), fun hn => ?advance, fun x hn => ?onT, fun x y hn => ?split,
    fun q x hn => ?onD, fun q hn => ?onTRow,
    fun x hn => ⟨fun ho => hstays (by rw [hn, ho]; rfl), fun o col ho hcol => ?byOffer⟩, fun hn => ?home,
    fun q x hn => ?switch⟩
  case advance =>
    have h := hon t ⟨a.bank, a.row, a.col + 1⟩ rfl (by rw [hn]; rfl)
    rwa [hn] at h
  case onT =>
    have h := hon t ⟨a.bank, a.row, x⟩ rfl (by rw [hn]; rfl)
    rwa [hn] at h
  case split =>
    have h := hmoves ⟨a.bank, a.row, if t then x else y⟩ false rfl (by rw [hn]; rfl)
    rwa [hn] at h
  case onD =>
    have h := hon s.seqr.d ⟨a.bank, profileRow q, x⟩ rfl (by rw [hn]; rfl)
    rwa [hn] at h
  case onTRow =>
    have h := hon t ⟨a.bank, profileRow q, 0⟩ rfl (by rw [hn]; rfl)
    rwa [hn] at h
  case byOffer =>
    have hx : (⟨x.val + o.cls.val, by omega⟩ : Fin 8) = col := Fin.ext hcol.symm
    have h := hmoves ⟨a.bank, a.row, col⟩ true rfl (by rw [hn, ho, ← hx]; rfl)
    rwa [hn] at h
  case home =>
    have h := hmoves ⟨a.bank, 0, 0⟩ false rfl (by rw [hn]; rfl)
    rwa [hn] at h
  case switch =>
    intro target
    have hb : target.bank = a.bank.other := by simp only [target]; cases a.bank <;> rfl
    have hcode : e.next.code = 8 := by rw [hn]; rfl
    have hmove : moveOf e.next a t s.seqr.d s.path.pendingOffer
        = if t then .switch target.row target.col else .none := by rw [hn]; rfl
    cases ht : t with
    | false => exact hstays (by rw [hmove, ht]; rfl)
    | true =>
      rw [hmove, ht, hcode] at hstage
      have hswitch := hstage.trans (takeMove_switch work a 8 target hb)
      rw [if_pos rfl]
      split
      case isTrue hok => exact hswitch.trans (if_pos hok)
      case isFalse hno => exact hswitch.trans (if_neg hno)

/-! ## Stage 2 -/

/-- What a change of the cause set writes in the guard unit: the set, and the count where the set changes (R74). -/
theorem changeCauses_guard (s : State) (c : CauseSource) (new : Causes) (round : Option Summary) :
    (s.changeCauses c new round).guard
      = { s.guard with
          causes := new
          changes := if new = s.guard.causes then s.guard.changes else (s.guard.changes + 1) % 256 } := by
  unfold State.changeCauses
  by_cases h : new = s.guard.causes
  · simp [h]
  · simp [h]

/-- A cause set by a figure at or above a bound stays down to the band's lower end (R75). -/
theorem hysteresis_above (x bound : Int) (now : Bool) :
    hysteresis (decide (x ≥ bound)) (decide (x < bound - Config.hysteresis)) now = true
      ↔ x ≥ bound ∨ (now = true ∧ x ≥ bound - 20) := by
  have hband : Config.hysteresis = 20 := rfl
  unfold hysteresis
  by_cases hs : x ≥ bound <;> by_cases hc : x < bound - 20 <;> simp [hband, hs, hc] <;> omega

/-- A cause set by a figure below a bound stays up to the band's upper end (R75). -/
theorem hysteresis_below (x bound : Int) (now : Bool) :
    hysteresis (decide (x < bound)) (decide (x ≥ bound + Config.hysteresis)) now = true
      ↔ x < bound ∨ (now = true ∧ x < bound + 20) := by
  have hband : Config.hysteresis = 20 := rfl
  unfold hysteresis
  by_cases hs : x < bound <;> by_cases hc : x ≥ bound + 20 <;> simp [hband, hs, hc]
  omega

/-- The cause set that stage 2 of a round evaluation leaves (R75, R76). -/
def roundSet (s : State) (r : Summary) : Causes :=
  clearEvents s.bothFresh s.guard.linkMark s.guard.hostReq (s.guard.roundCauses r s.guard.causes)

theorem stageCauses_guard (s : State) (r : Summary) :
    (s.stageCauses r).guard
      = { s.guard with
          causes := roundSet s r
          changes := if roundSet s r = s.guard.causes then s.guard.changes else (s.guard.changes + 1) % 256 } := by
  unfold State.stageCauses
  rw [dwellSync_eq]
  exact changeCauses_guard s .round (roundSet s r) (some r)

theorem stageCauses_seqr (s : State) (r : Summary) :
    (s.stageCauses r).seqr = { s.seqr with dwell := syncedDwell s.op (roundSet s r) s.seqr.dwell } := by
  unfold State.stageCauses
  rw [dwellSync_eq]
  simp [changeCauses_guard, roundSet]

/-- Settles O58, each cause by its band (`hysteresis_above`, `hysteresis_below`) or by its condition. -/
theorem stageTwoUpdatesCauses : Obligations.StageTwoUpdatesCauses := by
  intro s r g c
  have hc : c = roundSet s r := by simp only [c, stageCauses_guard]
  refine ⟨?_, ?_, ?_, ?_, ?_, ?_, ?_, ?_, ?_, ?_, ?_, ?_⟩
  · rw [hc]; exact hysteresis_above r.hi g.softOv g.causes.cellHigh
  · rw [hc]; exact hysteresis_below r.lo g.softUv g.causes.cellLow
  · rw [hc]; exact hysteresis_above r.hot g.chgTmax g.causes.warm
  · rw [hc]; exact hysteresis_below r.cold g.chgTmin g.causes.cold
  · rw [hc]; exact hysteresis_above r.dv g.imbalV g.causes.imbalance
  · rw [hc]
    simp [roundSet, clearEvents, GuardUnit.roundCauses, State.bothFresh, State.cell, PerCell.get, g, imp_iff_not_or]
  · rw [hc]
    simp [roundSet, clearEvents, GuardUnit.roundCauses, g]
  · rw [hc]
    simp [roundSet, clearEvents, GuardUnit.roundCauses, g]
  · rw [hc, stageCauses_guard]
  · rw [stageCauses_seqr, ← hc]
    cases s.seqr.dwell <;> rfl
  · simp [State.sameTables]
  · simp

/-! ## A pending GOTO at stage 3 -/

/-- A pending GOTO with a bank designated: blocked by an empty target, and otherwise the target entered fresh; either way the
goto is no longer pending (R62, R64). -/
theorem applyGoto_designated (s : State) (q : Fin 11) (k : Fin 8) {id : BankId} (hd : s.seqr.designation = some id) :
    (s.entryAt ⟨id, profileRow q, k⟩ = none →
        s.applyGoto q k = .blocked { s with seqr.goto := none } ⟨id, profileRow q, k⟩)
      ∧ ((s.entryAt ⟨id, profileRow q, k⟩).isSome →
          s.applyGoto q k
            = .ok (State.enterFresh { s with seqr.goto := none } ⟨id, profileRow q, k⟩)
                (some ⟨s.seqr.stored, 10, none⟩)) := by
  refine ⟨fun he => by simp [State.applyGoto, hd, he], fun he => ?_⟩
  have hn : (s.entryAt ⟨id, profileRow q, k⟩).isNone = false := by simpa using he
  simp [State.applyGoto, hd, hn, enteredByGoto]

/-! ## The command queue across an event -/

theorem quiet_parts {s : State} (h : s.quiet = true) : s.rst = false ∧ s.head = none := by
  simpa [State.quiet] using h

/-- An event that leaves no command waiting ends with the arbiter. -/
theorem event_quiet {s : State} {f : State → State} (hr : s.rst = false) (hh : (f s).head = none) :
    s.event f = .next (f s).arbitrate := by
  simp [State.event, hr, settle_quiet hh]

/-- From `s` to `t` no command enters or leaves the queue, and none begins to wait. -/
structure KeepsQueue (s t : State) : Prop where
  length : t.cmd.held.length = s.cmd.held.length
  head : s.head = none → t.head = none

theorem keepsQueue_of_held {s t : State} (h : t.cmd.held = s.cmd.held) : KeepsQueue s t :=
  ⟨by rw [h], fun hs => (head_of_held h).trans hs⟩

theorem KeepsQueue.trans {s t u : State} (h : KeepsQueue s t) (h' : KeepsQueue t u) : KeepsQueue s u :=
  ⟨h'.length.trans h.length, fun hs => h'.head (h.head hs)⟩

/-- What came before may have touched anything but the command queue. -/
theorem KeepsQueue.after {s s' t : State} (h : KeepsQueue s' t) (h' : s'.cmd.held = s.cmd.held) : KeepsQueue s t :=
  (keepsQueue_of_held h').trans h

/-- A command that is answered does not wait. -/
theorem keepsQueue_answerAt (s : State) (p : Nat) (echo : Byte) (status : Status) (results : List Field) :
    KeepsQueue s (s.answerAt p echo status results) := by
  refine ⟨by simp [State.answerAt, State.updateHeld, State.withHeld], fun hs => ?_⟩
  simp only [State.head, List.find?_eq_none, decide_eq_true_eq] at hs ⊢
  intro c hc
  simp only [State.answerAt, State.updateHeld, State.withHeld, List.mem_map] at hc
  obtain ⟨d, hd, rfl⟩ := hc
  split
  · simp [HeldCommand.replied]
  · exact hs d hd

theorem keepsQueue_answer (s : State) (c : HeldCommand) (status : Status) (results : List Field) :
    KeepsQueue s (s.answer c status results) := keepsQueue_answerAt s c.place c.seq status results

theorem keepsQueue_cancelSwap (s : State) (n : Nat) : KeepsQueue s (s.cancelSwap n) := by
  unfold State.cancelSwap
  split
  · exact keepsQueue_of_held rfl
  · exact (keepsQueue_answerAt _ _ _ _ _).after rfl

/-- HELD with its record written, before the entry's effects on the other blocks (R143). -/
def holding (s : State) (c : HoldCause) (reentry : Bool) : State :=
  State.dwellSync
    { s with op := .held, gate := false, hold.record := some (s.snapshot c reentry), seqr.goto := none }

/-- The entry into HELD before its setpoint is called for: the pending swap, the balance unit and the hand-over record, in the
order of R144. -/
def released (s : State) (c : HoldCause) (reentry : Bool) : State :=
  { ((holding s c reentry).cancelSwap 0).endBalancing .hold with path.handOver := none }

theorem enterHeld_eq (s : State) (c : HoldCause) (reentry : Bool) :
    s.enterHeld c reentry = (released s c reentry).callSetpoint.alert .hold (s.snapshot c reentry).fields := rfl

theorem keepsQueue_enterHeld (s : State) (c : HoldCause) (b : Bool) : KeepsQueue s (s.enterHeld c b) := by
  have hrecord : KeepsQueue s (holding s c b) := keepsQueue_of_held (by simp [holding])
  have hrest : KeepsQueue ((holding s c b).cancelSwap 0) (s.enterHeld c b) :=
    keepsQueue_of_held (by simp [enterHeld_eq, released])
  exact (hrecord.trans (keepsQueue_cancelSwap _ 0)).trans hrest

theorem keepsQueue_handCause (s : State) (c : HoldCause) : KeepsQueue s (s.handCause c) := by
  unfold State.handCause
  split
  · exact keepsQueue_of_held rfl
  · exact keepsQueue_enterHeld s c false
  · split <;> exact keepsQueue_of_held rfl

theorem keepsQueue_evaluateLast (s : State) : KeepsQueue s s.evaluateLast.1 := by
  unfold State.evaluateLast
  dsimp only
  split
  · exact keepsQueue_of_held (by simp)
  · exact (keepsQueue_handCause _ _).after (by simp)
  · split <;> exact keepsQueue_of_held (by simp)

theorem keepsQueue_evaluateEntry (s : State) : KeepsQueue s s.evaluateEntry.1 := by
  unfold State.evaluateEntry
  dsimp only
  split
  · exact keepsQueue_evaluateLast s
  · split
    · exact (keepsQueue_evaluateLast s).trans (keepsQueue_of_held (by simp))
    · exact keepsQueue_evaluateLast s

theorem keepsQueue_changeCauses (s : State) (c : CauseSource) (new : Causes) (r : Option Summary) :
    KeepsQueue s (s.changeCauses c new r) := keepsQueue_of_held (by simp)

theorem keepsQueue_eventCause (s : State) (c : EventCause) : KeepsQueue s (s.eventCause c) := by
  unfold State.eventCause
  dsimp only
  split
  · exact keepsQueue_of_held rfl
  · split
    · exact (keepsQueue_changeCauses s _ _ _).trans (keepsQueue_evaluateLast _)
    · exact keepsQueue_changeCauses s _ _ _

/-- The move to CONFIG before its setpoint is called for: the swap, the sequencer, the cause set, the balance unit and the
hand-over record, in the order of R189. -/
def leaving (s : State) : State :=
  { ((State.cancelSwap { s with op := .config, gate := false } 1).stopSequencer).emptyCauses.endBalancing .stop with
    path.handOver := none }

theorem leaveForConfig_eq (s : State) : s.leaveForConfig = (leaving s).callSetpoint := rfl

theorem keepsQueue_leaveForConfig (s : State) : KeepsQueue s s.leaveForConfig := by
  have hswap := keepsQueue_cancelSwap { s with op := .config, gate := false } 1
  have hrest : KeepsQueue (State.cancelSwap { s with op := .config, gate := false } 1) s.leaveForConfig :=
    keepsQueue_of_held (by simp [leaveForConfig_eq, leaving, State.emptyCauses, State.stopSequencer])
  exact (hswap.trans hrest).after rfl

/-! ## A command to the hub whose work reaches beyond its own fields -/

/-- A command that R158 names no reservation for waits on nothing. -/
theorem blockedOn_free {s : State} {seq : Byte} {k : HubCommand} (h : s.hubWait (encodeCommand k) = none) :
    s.blockedOn (s.heldAs seq k .waiting) = none := by
  simp [State.blockedOn, State.waitsOn, State.heldAs, h]

/-- In the state in which a command acts, it stands behind the queue as it was and none waits. -/
theorem entered_queue {s : State} (h : s.ready = true) (seq : Byte) (k : HubCommand) :
    (s.entered seq k).cmd.held.length = s.cmd.held.length + 1 ∧ (s.entered seq k).head = none := by
  obtain ⟨-, hhead, -⟩ := ready_parts h
  refine ⟨by simp [State.entered, State.withHeld], ?_⟩
  simp only [State.head, State.entered, State.withHeld] at hhead ⊢
  simp [List.find?_append, hhead, State.heldAs]

/-- A command to the hub that leaves `u` and is then answered ends its event with the arbiter. -/
theorem hubCommand_acts {s u : State} {seq : Byte} (h : s.ready = true) {k : HubCommand} {status : Status}
    {results : List Field} (hp : parseCommand (encodeCommand k) = k)
    (hr : isReset hubAddress (encodeCommand k) = false) (hw : s.hubWait (encodeCommand k) = none)
    (ha : (s.entered seq k).act (s.heldAs seq k .waiting) k = u.answer (s.heldAs seq k .waiting) status results)
    (hq : KeepsQueue (s.entered seq k) u) :
    s.hubCommand seq k = .next (u.answer (s.heldAs seq k .waiting) status results).arbitrate
      ∧ (u.answer (s.heldAs seq k .waiting) status results).arbitrate.cmd.held.length = s.cmd.held.length + 1
      ∧ (u.answer (s.heldAs seq k .waiting) status results).arbitrate.head = none := by
  obtain ⟨hlen, hhead⟩ := entered_queue h seq k
  have hk := hq.trans (keepsQueue_answer u (s.heldAs seq k .waiting) status results)
  have hnone : (u.answer (s.heldAs seq k .waiting) status results).arbitrate.head = none := by
    rw [arbitrate_head]; exact hk.head hhead
  refine ⟨?_, ?_, hnone⟩
  · rw [hubCommand_ready h hp hr (blockedOn_free hw), ha, drain_none _ hnone]
  · rw [arbitrate_held, hk.length, hlen]

theorem arbitrate_guard (s : State) : s.arbitrate.guard = s.guard := by simp

/-- Port U busy: the arbiter does nothing. -/
theorem arbitrate_busy {s : State} (h : s.link.sendingU.isSome) : s.arbitrate = s := by
  obtain ⟨u, hu⟩ := Option.isSome_iff_exists.mp h
  simp [State.arbitrate, hu]

/-- With port U busy, a command finds the output queues as they were. -/
theorem entered_busy {s : State} (h : s.link.sendingU.isSome) (seq : Byte) (k : HubCommand) :
    s.entered seq k = s.withHeld (s.cmd.held ++ [s.heldAs seq k .issued]) := by
  rw [State.entered, arbitrate_busy h]

theorem entered_op (s : State) (seq : Byte) (k : HubCommand) : (s.entered seq k).op = s.op := by simp

/-- A command that writes the guard unit acts on the state it finds. -/
theorem entered_withGuard (s : State) (g : GuardUnit) (seq : Byte) (k : HubCommand) :
    State.entered { s with guard := g } seq k = { s.entered seq k with guard := g } := by
  simp only [State.entered, arbitrate_eq]
  rfl

/-- A command that writes the sequencer acts on the state it finds. -/
theorem entered_withSeqr (s : State) (q : Sequencer) (seq : Byte) (k : HubCommand) :
    State.entered { s with seqr := q } seq k = { s.entered seq k with seqr := q } := by
  simp only [State.entered, arbitrate_eq]
  rfl

/-! ## What an evaluation on the last round reads and writes -/

/-- `t` agrees with `s` on all that an evaluation on the last round reads or writes but the guard unit: the command queue, port
U and the output queues may differ. -/
structure SameCore (s t : State) : Prop where
  op : t.op = s.op
  gate : t.gate = s.gate
  cells : t.cells = s.cells
  seqr : t.seqr = s.seqr
  path : t.path = s.path
  balance : t.balance = s.balance
  hold : t.hold = s.hold
  nodes : t.cmd.nodes = s.cmd.nodes
  portD : t.link.portD = s.link.portD

/-- `u` agrees with `s` on the figures of a computation and of a hand-over's decisions: the path unit may differ in ship mode,
which neither reads. -/
structure SameFigures (s u : State) : Prop where
  cells : u.cells = s.cells
  table : u.guard.table = s.guard.table
  limits : u.guard.limits = s.guard.limits
  path : ∃ ship, u.path = { s.path with ship := ship }
  balance : u.balance = s.balance
  nodes : u.cmd.nodes = s.cmd.nodes

theorem SameCore.figures {s u : State} (h : SameCore s u) (ht : u.guard.table = s.guard.table)
    (hl : u.guard.limits = s.guard.limits) : SameFigures s u :=
  ⟨h.cells, ht, hl, ⟨s.path.ship, h.path⟩, h.balance, h.nodes⟩

theorem sameCore_entered (s : State) (seq : Byte) (k : HubCommand) : SameCore s (s.entered seq k) := by
  constructor <;> simp [LinkUnit.portD]

theorem sameCore_answered (s : State) (c : HeldCommand) (status : Status) (results : List Field) :
    SameCore s (s.answer c status results).arbitrate := by
  constructor <;> simp [LinkUnit.portD]

theorem sameCore_arbitrate (s : State) : SameCore s s.arbitrate := by
  constructor <;> simp [LinkUnit.portD]

theorem sameCore_changeCauses (s : State) (c : CauseSource) (new : Causes) (r : Option Summary) :
    SameCore s (s.changeCauses c new r) := by
  constructor <;> simp

theorem SameCore.trans {s t u : State} (h : SameCore s t) (h' : SameCore t u) : SameCore s u :=
  ⟨h'.op.trans h.op, h'.gate.trans h.gate, h'.cells.trans h.cells, h'.seqr.trans h.seqr, h'.path.trans h.path,
    h'.balance.trans h.balance, h'.hold.trans h.hold, h'.nodes.trans h.nodes, h'.portD.trans h.portD⟩

/-- A computation reads its figures and nothing else. -/
theorem compute_congr {s u : State} (h : SameFigures s u) : u.compute = s.compute := by
  obtain ⟨hcells, htable, hlimits, ⟨ship, hpath⟩, -, -⟩ := h
  have hbudget : u.budget = s.budget := by
    unfold State.budget PathUnit.supply GuardUnit.eff
    rw [hcells, htable, hpath]
  have hnone (x : Option HandOver) : u.noRoundComputation x = s.noRoundComputation x := by
    unfold State.noRoundComputation
    rw [hbudget, hpath]
  have hfull (x : HandOver) (r : Summary) : u.fullComputation x r = s.fullComputation x r := by
    unfold State.fullComputation PathUnit.slewRef GuardUnit.hingeImax GuardUnit.hardIchg GuardUnit.slew
    rw [hbudget, hpath, htable, hlimits]
  unfold State.compute
  rw [hpath]
  simp only [hnone, hfull]

/-- The figures are the same with the same hand-over record written. -/
theorem SameFigures.withHandOver {s u : State} (h : SameFigures s u) (x : Option HandOver) :
    SameFigures { s with path.handOver := x } { u with path.handOver := x } := by
  obtain ⟨hcells, htable, hlimits, ⟨ship, hpath⟩, hbalance, hnodes⟩ := h
  exact ⟨hcells, htable, hlimits, ⟨ship, by simp only [hpath]⟩, hbalance, hnodes⟩

/-! ## The balance unit's decisions -/

theorem endShuttle_balance {s u : State} (h : u.balance = s.balance) (why : EndReason) :
    (u.endShuttle why).balance = (s.endShuttle why).balance := by
  unfold State.endShuttle
  rw [h]
  dsimp only
  split <;> simp [h]

theorem putBleeds_balance {s u : State} (h : u.balance = s.balance) (mid new : PerCell BleedRecord) :
    (u.putBleeds mid new).balance = (s.putBleeds mid new).balance := by
  simp [State.putBleeds, h]

theorem bleedsOff_balance {s u : State} (h : u.balance = s.balance) : u.bleedsOff.balance = s.bleedsOff.balance := by
  unfold State.bleedsOff
  rw [h]
  exact putBleeds_balance h _ _

theorem endChecks_balance {s u : State} (h : u.balance = s.balance) (r : Summary) (p : Permission) :
    (u.endChecks r p).balance = (s.endChecks r p).balance := by
  unfold State.endChecks
  rw [h]
  dsimp only
  split
  · split
    · exact endShuttle_balance h _
    · split
      · exact endShuttle_balance h _
      · exact h
  · exact h

theorem bleedDecision_balance {s u : State} (h : u.balance = s.balance) (r : Summary) (p : Permission) (m : Mode) :
    (u.bleedDecision r p m).balance = (s.bleedDecision r p m).balance := by
  have hstop (c : CellId) : u.bleedStopped r p m c = s.bleedStopped r p m c := by
    unfold State.bleedStopped State.bleedAllowed
    rw [h]
  have hstart (mid : PerCell BleedRecord) : u.bleedStarted r p m mid = s.bleedStarted r p m mid := by
    unfold State.bleedStarted State.bleedAllowed
    rw [h]
  simp only [State.bleedDecision, hstop, hstart]
  exact putBleeds_balance h _ _

theorem autoStart_balance {s u : State} (h : u.balance = s.balance) (hc : u.cells = s.cells) (r : Summary) :
    (u.autoStart r).balance = (s.autoStart r).balance := by
  unfold State.autoStart State.anyBleed
  rw [h, hc]
  by_cases hb : (s.balance.bleeds.one.on || s.balance.bleeds.two.on) = true
  · rw [if_pos hb, if_pos hb]
    exact bleedsOff_balance h
  · rw [if_neg hb, if_neg hb]
    simp only [State.startShuttle, h]

theorem startCalled_balance {s u : State} (h : u.balance = s.balance) (r : Summary) (p : Permission) :
    u.startCalled r p = s.startCalled r p := by
  unfold State.startCalled
  rw [h]

/-- A hand-over's decisions, once its permission and override mark are recorded (R125). -/
def decisions (s : State) (r : Summary) (p : Permission) (o : Bool) (m : Mode) : State :=
  if o then (s.endShuttle (.aborted .override)).bleedsOff
  else if (s.endChecks r p).balance.shuttle.active then s.endChecks r p
  else if (s.endChecks r p).startCalled r p then (s.endChecks r p).autoStart r
  else (s.endChecks r p).bleedDecision r p m

theorem balanceDecision_eq (s : State) (r : Summary) (p : Permission) (o : Bool) (m : Mode) :
    s.balanceDecision r p o m
      = decisions
          { s with balance.shuttle := { s.balance.shuttle with permission := some p, overrideMark := o } } r p o m := rfl

theorem decisions_balance {s u : State} (h : u.balance = s.balance) (hc : u.cells = s.cells) (r : Summary)
    (p : Permission) (o : Bool) (m : Mode) : (decisions u r p o m).balance = (decisions s r p o m).balance := by
  have hchecks := endChecks_balance h r p
  have hcells : (u.endChecks r p).cells = (s.endChecks r p).cells := by simpa using hc
  unfold decisions
  rw [hchecks, startCalled_balance hchecks]
  split
  · exact bleedsOff_balance (endShuttle_balance h _)
  · split
    · exact hchecks
    · split
      · exact autoStart_balance hchecks hcells r
      · exact bleedDecision_balance hchecks r p m

/-- A hand-over's decisions in the balance unit rest on that unit and on the cell accounting unit. -/
theorem balanceDecision_balance {s u : State} (h : u.balance = s.balance) (hc : u.cells = s.cells) (r : Summary)
    (p : Permission) (o : Bool) (m : Mode) :
    (u.balanceDecision r p o m).balance = (s.balanceDecision r p o m).balance := by
  rw [balanceDecision_eq, balanceDecision_eq, h]
  refine decisions_balance ?_ ?_ r p o m
  · rfl
  · exact hc

/-! ## The shapes of a setpoint called for and of a hand-over, from state to state -/

/-- A setpoint called for rests, before the event, on NODE4, the slot and the setpoint record. -/
theorem calledFor_from {s u t : State} {p : Setpoint} (hn : u.cmd.nodes = s.cmd.nodes)
    (hl : u.path.lastSetpoint = s.path.lastSetpoint) (hs : u.path.slot = s.path.slot) (h : u.calledFor t p) :
    s.calledFor t p := by
  simpa only [State.calledFor, hn, hl, hs] using h

/-- After the event it rests on what `SameCore` keeps. -/
theorem calledFor_to {s t t' : State} {p : Setpoint} (ht : SameCore t t') (h : s.calledFor t p) : s.calledFor t' p := by
  simpa only [State.calledFor, ht.gate, ht.path, ht.nodes, ht.portD] using h

theorem SameFigures.calledFor {s u t : State} {p : Setpoint} (h : SameFigures s u) (hc : u.calledFor t p) :
    s.calledFor t p := by
  obtain ⟨ship, hpath⟩ := h.path
  exact calledFor_from h.nodes (by rw [hpath]) (by rw [hpath]) hc

theorem computedFor_to {s t t' : State} {k : Computation} (ht : SameCore t t') (h : s.computedFor t k) :
    s.computedFor t' k := by
  obtain ⟨hcomp, hcall⟩ := h
  have hcall' := calledFor_to ht hcall
  rw [← ht.balance] at hcall'
  exact ⟨by rw [ht.path]; exact hcomp, hcall'⟩

theorem SameFigures.handedOver {s u t : State} {a : StepAddr} {e : StepEntry} (h : SameFigures s u)
    (ho : u.handedOver t a e) : s.handedOver t a e := by
  intro r hr x k
  have hk : State.compute { u with path.handOver := some x } = k := compute_congr (h.withHandOver (some x))
  obtain ⟨hrec, hbal, hcomp, hcall⟩ := ho r (by rw [h.cells]; exact hr)
  rw [hk] at hbal hcomp hcall
  exact ⟨hrec, hbal.trans (balanceDecision_balance h.balance h.cells _ _ _ _), hcomp, h.calledFor hcall⟩

theorem handedOver_to {s t t' : State} {a : StepAddr} {e : StepEntry} (ht : SameCore t t') (h : s.handedOver t a e) :
    s.handedOver t' a e := by
  intro r hr
  obtain ⟨hrec, hbal, hcomp⟩ := h r hr
  have hcomp' := computedFor_to ht hcomp
  rw [← ht.seqr] at hrec hbal hcomp'
  exact ⟨by rw [ht.path]; exact hrec, by rw [ht.balance]; exact hbal, hcomp'⟩

theorem overrideRow_iff (row : Fin 12) : row = overrideRow ↔ row.val = 11 := Fin.ext_iff

/-- The hand-over of the last round in RUN (R52, R88, R125). -/
theorem handOver_handedOver (s : State) {r : Summary} (a : StepAddr) (e : StepEntry) (hop : s.op = .run)
    (hr : s.cells.lastRound = some r) : s.handedOver (s.handOver r a e) a e := by
  intro r' hr' x k
  obtain rfl : r = r' := Option.some.inj (hr.symm.trans hr')
  let s1 := s.recordHandOver (some r) a e
  have hx : s1 = { s with path.handOver := some x } := by
    simp only [s1, x, State.recordHandOver, overrideRow_iff, State.handOver_frame]
  let s2 : State := { s1 with path.computation := some k }
  let s3 := s2.balanceDecision r e.permission (decide (a.row.val = 11)) k.mode
  have hh : s.handOver r a e = s3.transport (s3.runSetpoint k) := by
    have hk : s1.compute = k := by rw [hx]
    unfold State.handOver
    simp only [overrideRow_iff, s3, s2]
    rw [← hk]
  have hbal : s3.balance = (s.balanceDecision r e.permission (decide (a.row.val = 11)) k.mode).balance :=
    balanceDecision_balance (s := s) (u := s2) rfl rfl _ _ _ _
  have hcall := transport_called s3 (s3.runSetpoint k) (by simp [State.runSetpoint, s3, s2, s1, hop])
  have hb : (s3.transport (s3.runSetpoint k)).balance = s3.balance := by simp
  rw [hh]
  refine ⟨by simp [s3, s2, hx], by rw [hb]; exact hbal, by simp [s3, s2], ?_⟩
  rw [hb]
  exact calledFor_from (u := s3) (by simp [s3, s2, hx]) (by simp [s3, s2, hx]) (by simp [s3, s2, hx]) hcall

/-! ## The effective step of a running profile -/

/-- A set with no cause in any column is the empty set. -/
theorem causes_eq_none {g : Causes} (h : ∀ col, g.has col = false) : g = Causes.none := by
  obtain ⟨c0, c1, c2, c3, c4, c5, c6, c7⟩ := g
  have h0 : c0 = false := h 0
  have h1 : c1 = false := h 1
  have h2 : c2 = false := h 2
  have h3 : c3 = false := h 3
  have h4 : c4 = false := h 4
  have h5 : c5 = false := h 5
  have h6 : c6 = false := h 6
  have h7 : c7 = false := h 7
  subst h0 h1 h2 h3 h4 h5 h6 h7
  rfl

/-- A set that is not empty has a governing column: the lowest of its causes (R81). -/
theorem governing_of_ne {g : Causes} (h : g ≠ Causes.none) :
    ∃ col, g.governing = some col ∧ g.has col = true ∧ ∀ j, j < col → g.has j = false := by
  have hfin : g.governing = (List.finRange 8).find? g.has := rfl
  cases hg : g.governing with
  | none =>
    rw [hfin, List.find?_eq_none] at hg
    exact absurd (causes_eq_none fun col => by simpa using hg col (List.mem_finRange col)) h
  | some col =>
    rw [hfin, List.find?_eq_some_iff_getElem] at hg
    obtain ⟨hhas, i, hi, hcol, hlow⟩ := hg
    refine ⟨col, rfl, hhas, fun j hj => ?_⟩
    rw [List.getElem_finRange] at hcol
    have hji : j.val < i := by rw [← hcol] at hj; exact hj
    simpa using hlow j.val hji

theorem profiled_parts {s : State} (h : s.profiled = true) :
    ∃ a, s.seqr.designation = some a.bank ∧ s.seqr.stored = some a ∧ a.row ≠ overrideRow ∧ (s.entryAt a).isSome
      ∧ bankComplete (s.seqr.bank a.bank) = true := by
  unfold State.profiled at h
  split at h
  · rename_i id a hd hs
    simp only [Bool.and_eq_true, decide_eq_true_eq] at h
    obtain ⟨⟨⟨rfl, hrow⟩, he⟩, hc⟩ := h
    exact ⟨a, hd, hs, hrow, he, hc⟩
  · exact absurd h (by simp)

/-- A running profile runs for an event that leaves the sequencer as it was. -/
theorem profiled_congr {s u : State} (h : u.seqr = s.seqr) : u.profiled = s.profiled := by
  simp only [State.profiled, State.entryAt, h]

theorem profiled_of {s : State} {a : StepAddr} (hd : s.seqr.designation = some a.bank) (hs : s.seqr.stored = some a)
    (hrow : a.row ≠ overrideRow) (he : (s.entryAt a).isSome) (hc : bankComplete (s.seqr.bank a.bank) = true) :
    s.profiled = true := by
  simp [State.profiled, hd, hs, hrow, he, hc]

/-- In a running profile the effective step is found: the stored step, or the override-row entry that governs (R50, R81). -/
theorem resolve_profiled {s : State} (h : s.profiled = true) :
    ∃ stored a e, s.seqr.stored = some stored ∧ s.guard.causes.governs stored a ∧ s.entryAt a = some e
      ∧ s.resolve = .found a e := by
  obtain ⟨stored, hd, hs, -, he, hc⟩ := profiled_parts h
  by_cases hg : s.guard.causes = Causes.none
  · obtain ⟨e, he⟩ := Option.isSome_iff_exists.mp he
    exact ⟨stored, stored, e, hs, .inl ⟨hg, rfl⟩, he, by simp [State.resolve, State.effectiveAddr, isEmpty_iff, hg, hs, he]⟩
  · obtain ⟨col, hcol, hhas, hlow⟩ := governing_of_ne hg
    obtain ⟨e, he⟩ := Option.isSome_iff_exists.mp ((bankComplete_iff _).mp hc col)
    have hat : s.entryAt ⟨stored.bank, overrideRow, col⟩ = some e := he
    exact ⟨stored, ⟨stored.bank, overrideRow, col⟩, e, hs, .inr ⟨col, hhas, hlow, rfl⟩, hat,
      by simp [State.resolve, State.effectiveAddr, isEmpty_iff, hg, hd, hcol, hat]⟩

/-! ## The evaluation on the last round -/

/-- The state at a hand-over: the dwell timer synchronised and the effective step recorded (R47, R50). -/
def stepped (s : State) (a : StepAddr) : State :=
  { s with seqr.effective := some a, seqr.dwell := syncedDwell s.op s.guard.causes s.seqr.dwell }

/-- An evaluation on the last round in a running profile: the effective step found is handed over with the last round, where
there is one (R53, R80). -/
theorem evaluateLast_found {s : State} {a : StepAddr} {e : StepEntry} (h : s.resolve = .found a e) :
    s.evaluateLast
      = match s.cells.lastRound with
        | some r => ((stepped s a).handOver r a e, true)
        | none => (stepped s a, false) := by
  unfold State.evaluateLast
  rw [dwellSync_eq]
  have hr : State.resolve { s with seqr.dwell := syncedDwell s.op s.guard.causes s.seqr.dwell } = .found a e := h
  dsimp only
  rw [hr]
  rfl

theorem evaluateLast_seqr {s : State} {a : StepAddr} {e : StepEntry} (h : s.resolve = .found a e) :
    s.evaluateLast.1.op = s.op ∧ s.evaluateLast.1.hold = s.hold ∧ s.evaluateLast.1.out.replies = s.out.replies
      ∧ s.evaluateLast.1.cmd.held = s.cmd.held ∧ s.evaluateLast.2 = s.cells.lastRound.isSome
      ∧ s.evaluateLast.1.seqr
        = { s.seqr with effective := some a, dwell := syncedDwell s.op s.guard.causes s.seqr.dwell } := by
  rw [evaluateLast_found h]
  cases s.cells.lastRound <;> simp [stepped]

theorem sameFigures_stepped (s : State) (a : StepAddr) : SameFigures s (stepped s a) :=
  ⟨rfl, rfl, rfl, ⟨s.path.ship, rfl⟩, rfl, rfl⟩

/-- The evaluation hands over the effective step in RUN. -/
theorem evaluateLast_handedOver {s : State} {a : StepAddr} {e : StepEntry} (h : s.resolve = .found a e)
    (hop : s.op = .run) : s.handedOver s.evaluateLast.1 a e := by
  rw [evaluateLast_found h]
  cases hl : s.cells.lastRound with
  | none => intro r hr; simp [hl] at hr
  | some r => exact (sameFigures_stepped s a).handedOver (handOver_handedOver (stepped s a) a e hop hl)

theorem evaluateLast_noRound {s : State} {a : StepAddr} {e : StepEntry} (h : s.resolve = .found a e)
    (hl : s.cells.lastRound = none) : s.evaluateLast.1 = stepped s a := by
  rw [evaluateLast_found h, hl]

/-- An override evaluation over a set that is not empty, in a running profile (R47, R53, R80, R81). -/
theorem evaluateLast_overridden {s : State} (hp : s.profiled = true) (hop : s.op = .run)
    (hc : s.guard.causes ≠ Causes.none) : s.overridden s.evaluateLast.1 := by
  obtain ⟨stored, a, e, hs, hg, he, hr⟩ := resolve_profiled hp
  obtain ⟨hop', hhold, -, -, -, hseqr⟩ := evaluateLast_seqr hr
  have hrow : a.row.val = 11 := by
    obtain ⟨hnone, -⟩ | ⟨col, -, -, rfl⟩ := hg
    · exact absurd hnone hc
    · rfl
  have hguard : s.evaluateLast.1.guard = s.guard := by simp
  refine ⟨stored, a, e, hs, by rw [hguard]; exact hg, hrow, he, hop'.trans hop, hhold, ?_,
    evaluateLast_handedOver hr hop, fun hl => ?_⟩
  · rw [hseqr, syncedDwell_paused (by simp [hc])]
    cases s.seqr.dwell <;> rfl
  · rw [evaluateLast_noRound hr hl]
    exact ⟨rfl, rfl, rfl, rfl, rfl⟩

/-- `overridden` rests, before the event, on what `SameCore` keeps and on the tables of the guard unit. -/
theorem overridden_from {s u t : State} (h : SameCore s u) (ht : u.guard.table = s.guard.table)
    (hl : u.guard.limits = s.guard.limits) (ho : u.overridden t) : s.overridden t := by
  obtain ⟨stored, a, e, hs, hg, hrow, he, hop, hhold, hseqr, hover, hnone⟩ := ho
  have hover' := (h.figures ht hl).handedOver hover
  simp only [State.entryAt, h.gate, h.cells, h.seqr, h.path, h.balance, h.hold, h.nodes, h.portD] at hs he hhold hseqr hnone
  exact ⟨stored, a, e, hs, hg, hrow, he, hop, hhold, hseqr, hover', hnone⟩

/-- After the event it rests on what `SameCore` keeps and on the cause set. -/
theorem overridden_to {s t t' : State} (h : SameCore t t') (hc : t'.guard.causes = t.guard.causes)
    (ho : s.overridden t) : s.overridden t' := by
  obtain ⟨stored, a, e, hs, hg, hrow, he, hop, hhold, hseqr, hover, hnone⟩ := ho
  have hover' := handedOver_to h hover
  refine ⟨stored, a, e, hs, by rw [hc]; exact hg, hrow, he, h.op.trans hop, h.hold.trans hhold, h.seqr.trans hseqr,
    hover', ?_⟩
  simpa only [h.gate, h.path, h.balance, h.nodes, h.portD] using hnone

/-! ## An event-detected cause -/

/-- The cause set with a cause absent from it added is a new set, and not empty. -/
theorem addEvent_ne {g : Causes} {c : EventCause} (h : g.hasEvent c = false) :
    g.addEvent c ≠ g ∧ g.addEvent c ≠ Causes.none := by
  obtain ⟨c0, c1, c2, c3, c4, c5, c6, c7⟩ := g
  cases c <;> simp_all [Causes.addEvent, Causes.hasEvent, Causes.none]

/-- Where nothing is to be recorded (R77 to R79, R82). -/
theorem eventCause_idle {s : State} {c : EventCause} (h : s.op = .config ∨ s.guard.causes.hasEvent c = true) :
    s.eventCause c = s := by
  simp [State.eventCause, h]

/-- `s` with an event-detected cause added to its set. -/
def withEvent (s : State) (c : EventCause) : State := s.changeCauses c.source (s.guard.causes.addEvent c) none

theorem withEvent_guard (s : State) (c : EventCause) (h : s.guard.causes.hasEvent c = false) :
    (withEvent s c).guard
      = { s.guard with causes := s.guard.causes.addEvent c, changes := (s.guard.changes + 1) % 256 } := by
  obtain ⟨hnew, -⟩ := addEvent_ne h
  simp [withEvent, changeCauses_guard, hnew]

/-- A cause that is set in RUN runs an override evaluation; in HELD it is set alone (R80). -/
theorem eventCause_set {s : State} {c : EventCause} (hop : s.op ≠ .config) (h : s.guard.causes.hasEvent c = false) :
    s.eventCause c = if s.op = .run then (withEvent s c).evaluateLast.1 else withEvent s c := by
  simp [State.eventCause, hop, h, withEvent]

theorem eventCause_guard {s : State} {c : EventCause} (hop : s.op ≠ .config)
    (h : s.guard.causes.hasEvent c = false) :
    (s.eventCause c).guard
      = { s.guard with causes := s.guard.causes.addEvent c, changes := (s.guard.changes + 1) % 256 } := by
  rw [eventCause_set hop h]
  split <;> simp [withEvent_guard s c h]

/-- The override evaluation of a cause that is set in a running profile (R47, R53, R80, R81). -/
theorem eventCause_overridden {s : State} {c : EventCause} (hop : s.op = .run)
    (h : s.guard.causes.hasEvent c = false) (hp : s.profiled = true) : s.overridden (s.eventCause c) := by
  have hcore : SameCore s (withEvent s c) := sameCore_changeCauses _ _ _ _
  have hg := withEvent_guard s c h
  obtain ⟨-, hset⟩ := addEvent_ne h
  have hp' : (withEvent s c).profiled = true := (profiled_congr hcore.seqr).trans hp
  rw [eventCause_set (by simp [hop]) h, if_pos hop]
  exact overridden_from hcore (by rw [hg]) (by rw [hg])
    (evaluateLast_overridden hp' (hcore.op.trans hop) (by rw [hg]; exact hset))

/-! ## Bad and good frames on port D -/

theorem keepsQueue_badFrameD (s : State) : KeepsQueue s s.badFrameD := by
  unfold State.badFrameD
  dsimp only
  split
  · exact (keepsQueue_eventCause _ _).after rfl
  · exact keepsQueue_of_held rfl

theorem exec_portDBadFrame {s : State} (h : s.quiet = true) : exec .portDBadFrame s = .next s.badFrameD.arbitrate := by
  obtain ⟨hr, hh⟩ := quiet_parts h
  exact event_quiet hr ((keepsQueue_badFrameD s).head hh)

theorem exec_unfitFrame {s : State} (h : s.quiet = true) : exec .unfitFrame s = .next s.goodFrameD.arbitrate := by
  obtain ⟨hr, hh⟩ := quiet_parts h
  exact event_quiet hr ((head_of_held (by simp)).trans hh)

/-- A bad frame that is not the fourth in a row advances the count and is not reported (R172). -/
theorem badFrameD_counted {s : State} (h : s.link.badCount ≠ 3) :
    s.badFrameD = { s with link.badCount := min 255 (s.link.badCount + 1) } := by
  simp [State.badFrameD, Config.reportedBadFrame, h, bump]

/-- The count at four and the link condition mark set, before the event of LINK (R78, R172). -/
def fourthBad (s : State) : State := { s with link.badCount := 4, guard.linkMark := true }

theorem badFrameD_fourth {s : State} (h : s.link.badCount = 3) : s.badFrameD = (fourthBad s).eventCause .link := by
  simp [State.badFrameD, Config.reportedBadFrame, h, bump, fourthBad]

/-- In HELD the fourth bad frame adds LINK and runs no evaluation (R80). -/
theorem fourthBad_held {s : State} (hop : s.op = .held) (hlink : s.guard.causes.link = false) :
    (fourthBad s).eventCause .link = withEvent (fourthBad s) .link := by
  rw [eventCause_set (s := fourthBad s) (c := .link) (by simp [fourthBad, hop]) hlink, if_neg (by simp [fourthBad, hop])]

theorem goodFrameD_short {s : State} (h : s.link.badCount < 4) : s.goodFrameD = { s with link.badCount := 0 } := by
  simp [State.goodFrameD, Config.reportedBadFrame, h]

theorem goodFrameD_ending {s : State} (h : s.link.badCount ≥ 4) :
    s.goodFrameD = { s with link.badCount := 0, guard.linkMark := false } := by
  simp [State.goodFrameD, Config.reportedBadFrame, h]

/-- Settles O8: the fourth bad frame is the event of LINK, whose evaluation `eventCause_overridden` describes. -/
theorem badAndGoodFrames : Obligations.BadAndGoodFrames := by
  intro s hq
  rw [exec_portDBadFrame hq, exec_unfitFrame hq]
  refine ⟨fun h => by rw [badFrameD_counted h], fun h hidle => ?_, fun h hop hlink => ?_,
    fun h => by rw [goodFrameD_short h], fun h => by rw [goodFrameD_ending h]⟩
  · rw [badFrameD_fourth h, eventCause_idle (s := fourthBad s) (c := .link) hidle]
    rfl
  · have hset : (fourthBad s).guard.causes.hasEvent .link = false := hlink
    have hcore : SameCore s (fourthBad s) := ⟨rfl, rfl, rfl, rfl, rfl, rfl, rfl, rfl, rfl⟩
    rw [badFrameD_fourth h]
    refine ⟨_, rfl, ?_, ?_, ?_, fun hheld => ?_, fun hrun hp => ?_⟩
    · simp [fourthBad]
    · exact (arbitrate_guard _).trans (eventCause_guard (s := fourthBad s) (c := .link) hop hset)
    · simp [fourthBad, State.sameTables]
    · rw [fourthBad_held hheld hlink]
      simp [withEvent, fourthBad, hheld]
    · have hover := overridden_from hcore rfl rfl (eventCause_overridden (s := fourthBad s) hrun hset hp)
      exact overridden_to (sameCore_arbitrate _) (by simp) hover

/-! ## The dwell expiry -/

theorem exec_dwellExpiry {s : State} (h : s.quiet = true) : exec .dwellExpiry s = .next s.expireDwell.arbitrate := by
  obtain ⟨hr, hh⟩ := quiet_parts h
  exact event_quiet hr ((head_of_held (by simp)).trans hh)

/-- The state at a dwell expiry before any hand-over: D set and the timer expired (R58). -/
def expired (s : State) : State := { s with seqr.d := true, seqr.dwell := .expired }

theorem expireDwell_running {s : State} {ms : Nat} {a : StepAddr} {e : StepEntry} (hd : s.seqr.dwell = .running ms)
    (hs : s.seqr.stored = some a) (he : s.entryAt a = some e) :
    s.expireDwell
      = if e.gate = .untilD then ((expired s).recordHandOver s.cells.lastRound a e).callSetpoint else expired s := by
  have hentry : (expired s).storedEntry = some e := by
    have hstored : (expired s).seqr.stored = some a := hs
    rw [State.storedEntry, hstored]
    exact he
  unfold State.expireDwell
  rw [hd]
  dsimp only
  split
  · rename_i a' e' ha he'
    obtain rfl : a = a' := Option.some.inj (hs.symm.trans ha)
    obtain rfl : e = e' := Option.some.inj (hentry.symm.trans he')
    rfl
  · rename_i hnone
    exact absurd hentry (hnone a e hs)

/-- The hand-over of an UNTIL_D step in RUN computes and sends a setpoint (R58, R113). -/
theorem expired_computed {s : State} (a : StepAddr) (e : StepEntry) (hop : s.op = .run) :
    let u := (expired s).recordHandOver s.cells.lastRound a e
    s.computedFor u.callSetpoint (State.compute { s with path.handOver := u.path.handOver }) := by
  intro u
  obtain ⟨hcomp, hcall⟩ := callSetpoint_run u hop
  have hfig : SameFigures { s with path.handOver := u.path.handOver } u := ⟨rfl, rfl, rfl, ⟨s.path.ship, rfl⟩, rfl, rfl⟩
  rw [compute_congr hfig] at hcomp hcall
  exact ⟨hcomp, calledFor_from rfl rfl rfl hcall⟩

/-- Settles O44, by the gate of the stored step. -/
theorem dwellExpires : Obligations.DwellExpires := by
  intro s ms a e hq hd hs he
  have hx := expireDwell_running hd hs he
  refine ⟨_, exec_dwellExpiry hq, ?_, ?_, ?_, ?_, ?_, ?_, ?_, fun hg => ?_, fun hg => ?_⟩
  · rw [hx]; split <;> simp [expired]
  · simp [State.sameTables]
  · simp
  · simp
  · simp
  · simp
  · simp
  · rw [hx, if_neg hg]; simp [expired]
  · rw [hx, if_pos hg]
    have hrec : ((expired s).recordHandOver s.cells.lastRound a e).callSetpoint.arbitrate.path.handOver
        = ((expired s).recordHandOver s.cells.lastRound a e).path.handOver := by simp
    refine ⟨?_, fun hop => ?_⟩
    · rw [hrec]
      simp only [State.recordHandOver, overrideRow_iff, expired]
    · rw [hrec]
      exact computedFor_to (sameCore_arbitrate _) (expired_computed a e hop)

/-! ## GOTO -/

/-- GOTO waits for a pending swap alone (R158). -/
theorem goto_free {s : State} {seq row col : Byte} (h : s.seqr.swap = none) :
    s.blockedOn (s.heldAs seq (.goto row col) .waiting) = none := by
  have hw : s.waitsOn (s.heldAs seq (.goto row col) .waiting) = some .banks := rfl
  simp [State.blockedOn, hw, State.reserved, h]

/-- A GOTO with no swap pending that changes the hub from `s` to `t` and is answered. -/
theorem exec_goto {s t : State} {seq row col : Byte} {status : Status} {results : List Field} (h : s.ready = true)
    (hw : s.seqr.swap = none) (hheld : t.cmd.held = s.cmd.held)
    (ha : (s.entered seq (.goto row col)).takeGoto (s.heldAs seq (.goto row col) .waiting) row col
      = (t.entered seq (.goto row col)).answer (s.heldAs seq (.goto row col) .waiting) status results) :
    exec (.goto seq row col) s = .next (t.replied seq (.goto row col) status results) :=
  hubCommand_answers h rfl rfl (goto_free hw) hheld ha

theorem takeGoto_outside {u : State} (c : HeldCommand) (row col : Byte) (h : u.op ≠ .run) :
    u.takeGoto c row col = u.answer c .state [] := by
  simp [State.takeGoto, h]

theorem takeGoto_unnamed {u : State} (c : HeldCommand) {row col : Byte} (h : u.op = .run)
    (hp : positionOf row col = none) : u.takeGoto c row col = u.answer c .badEntry [] := by
  simp [State.takeGoto, h, hp]

theorem activeBank_run {u : State} (h : u.op = .run) : u.activeBank = u.seqr.designation := by
  simp [State.activeBank, h]

theorem takeGoto_empty {u : State} (c : HeldCommand) {row col : Byte} {q : Fin 11} {k : Fin 8} {id : BankId}
    (h : u.op = .run) (hp : positionOf row col = some (q, k)) (hd : u.seqr.designation = some id)
    (he : u.entryAt ⟨id, profileRow q, k⟩ = none) : u.takeGoto c row col = u.answer c .badEntry [] := by
  simp [State.takeGoto, h, hp, activeBank_run h, hd, he]

theorem takeGoto_filled {u : State} (c : HeldCommand) {row col : Byte} {q : Fin 11} {k : Fin 8} {id : BankId}
    (h : u.op = .run) (hp : positionOf row col = some (q, k)) (hd : u.seqr.designation = some id)
    (he : (u.entryAt ⟨id, profileRow q, k⟩).isSome) :
    u.takeGoto c row col
      = State.answer { u with seqr.goto := some (q, k) } c .ok
          [.step u.seqr.stored, .step u.seqr.effective, .step (some ⟨id, profileRow q, k⟩), .mark u.seqr.goto.isSome] := by
  have hn : (u.entryAt ⟨id, profileRow q, k⟩).isNone = false := by simpa using he
  simp [State.takeGoto, h, hp, activeBank_run h, hd, hn, State.gotoResults, State.gotoAddr]

theorem entered_entryAt (s : State) (seq : Byte) (k : HubCommand) (a : StepAddr) :
    (s.entered seq k).entryAt a = s.entryAt a := by
  simp [State.entryAt]

/-- Settles O19, the stage by `applyGoto_designated` and the command refusal by refusal. -/
theorem gotoTaken : Obligations.GotoTaken := by
  refine ⟨fun s r q k id hg hd => ?_, fun s seq row col h hw => ?_⟩
  · rw [stageStep_goto s r hg]
    exact applyGoto_designated s q k hd
  · refine ⟨fun hop => ?_, fun hop hp => ?_, fun q k id hop hp hd he => ?_, fun q k id hop hp hd he => ?_⟩
    · exact exec_goto h hw rfl (takeGoto_outside _ _ _ (by simpa using hop))
    · exact exec_goto h hw rfl (takeGoto_unnamed _ (by simpa using hop) hp)
    · exact exec_goto h hw rfl
        (takeGoto_empty _ (by simpa using hop) hp (by simpa using hd) ((entered_entryAt _ _ _ _).trans he))
    · refine exec_goto (t := { s with seqr.goto := some (q, k) }) h hw rfl ?_
      rw [takeGoto_filled _ (by simpa using hop) hp (by simpa using hd) (by rw [entered_entryAt]; exact he),
        entered_withSeqr s { s.seqr with goto := some (q, k) }]
      simp only [entered_frame]

/-! ## LOCK and OVERRIDE -/

/-- A command of the guard unit or of state control waits on nothing (R158). -/
theorem override_free (s : State) (code : Byte) : s.hubWait (encodeCommand (.override code)) = none := rfl

/-- An OVERRIDE that changes the hub from `s` to `t` and is answered. -/
theorem hubCommand_override {s t : State} {seq code : Byte} {status : Status} {results : List Field}
    (h : s.ready = true) (hheld : t.cmd.held = s.cmd.held)
    (ha : (s.entered seq (.override code)).takeOverride (s.heldAs seq (.override code) .waiting) code
      = (t.entered seq (.override code)).answer (s.heldAs seq (.override code) .waiting) status results) :
    s.hubCommand seq (.override code) = .next (t.replied seq (.override code) status results) :=
  hubCommand_answers h rfl rfl (blockedOn_free (override_free s code)) hheld ha

theorem takeOverride_outside {u : State} (c : HeldCommand) (code : Byte) (h : u.op ≠ .run) :
    u.takeOverride c code = u.answer c .state [] := by
  simp [State.takeOverride, h]

theorem takeOverride_badCode {u : State} (c : HeldCommand) {code : Byte} (h : u.op = .run) (h0 : code ≠ 0)
    (h1 : code ≠ 1) : u.takeOverride c code = u.answer c .badEntry [] := by
  rw [State.takeOverride, if_neg (by simp [h]), if_neg h1, if_neg h0]

theorem takeOverride_clear {u : State} (c : HeldCommand) (h : u.op = .run) :
    u.takeOverride c 0
      = State.answer { u with guard.hostReq := false } c .ok [.mark false, .causes u.guard.causes, .mark false] := by
  simp [State.takeOverride, h, State.overrideResults]

theorem takeOverride_set {u : State} (c : HeldCommand) (h : u.op = .run) :
    u.takeOverride c 1
      = u.setHostRequest.answer c .ok (u.setHostRequest.overrideResults (!u.guard.causes.hostSet)) := by
  simp [State.takeOverride, h]

/-- With HOST_SET already in the set, OVERRIDE set raises the host request mark alone (R82). -/
theorem setHostRequest_present {u : State} (h : u.guard.causes.hostSet = true) :
    u.setHostRequest = { u with guard.hostReq := true } :=
  eventCause_idle (s := { u with guard.hostReq := true }) (c := .hostSet) (.inr h)

/-- OVERRIDE set with the host request mark raised, before the event of HOST_SET (R82). -/
def requested (s : State) (seq : Byte) : State := { s.entered seq (.override 1) with guard.hostReq := true }

theorem setHostRequest_entered (s : State) (seq : Byte) :
    (s.entered seq (.override 1)).setHostRequest = (requested s seq).eventCause .hostSet := rfl

theorem sameCore_requested (s : State) (seq : Byte) : SameCore s (requested s seq) :=
  (sameCore_entered s seq (.override 1)).trans ⟨rfl, rfl, rfl, rfl, rfl, rfl, rfl, rfl, rfl⟩

theorem requested_guard (s : State) (seq : Byte) : (requested s seq).guard = { s.guard with hostReq := true } := by
  simp [requested]

/-- Settles O27: OVERRIDE set with HOST_SET absent is an event-detected cause; the rest are answered at once. -/
theorem lockAndOverride : Obligations.LockAndOverride := by
  intro s seq h
  refine ⟨?_, fun hop => ⟨?_, ?_⟩, fun code h0 h1 => ?_, fun hop => ?_, fun hop hset => ?_, fun hop hset => ?_⟩
  · refine hubCommand_answers (t := { s with guard.lock := true }) h rfl rfl (blockedOn_free rfl) rfl ?_
    rw [entered_withGuard s { s.guard with lock := true }]
    show State.takeLock _ _ = _
    simp only [State.takeLock, entered_frame]
  · exact hubCommand_override h rfl (takeOverride_outside _ _ (by simpa using hop))
  · exact hubCommand_override h rfl (takeOverride_outside _ _ (by simpa using hop))
  · by_cases hop : s.op = .run
    · rw [if_pos hop]
      exact hubCommand_override h rfl (takeOverride_badCode _ (by simpa using hop) h0 h1)
    · rw [if_neg hop]
      exact hubCommand_override h rfl (takeOverride_outside _ _ (by simpa using hop))
  · refine hubCommand_override (t := { s with guard.hostReq := false }) h rfl ?_
    rw [takeOverride_clear _ (by simpa using hop), entered_withGuard s { s.guard with hostReq := false }]
    simp only [entered_frame]
  · refine hubCommand_override (t := { s with guard.hostReq := true }) h rfl ?_
    rw [takeOverride_set _ (by simpa using hop), setHostRequest_present (by simpa using hset),
      entered_withGuard s { s.guard with hostReq := true }]
    simp only [entered_frame, State.overrideResults, hset, Bool.not_true]
  · have hcore := sameCore_requested s seq
    have hguard := requested_guard s seq
    have hop' : (requested s seq).op = .run := hcore.op.trans hop
    have hset' : (requested s seq).guard.causes.hasEvent .hostSet = false := by rw [hguard]; exact hset
    have hrun : (requested s seq).op ≠ .config := by simp [hop']
    obtain ⟨hexec, hlen, hhead⟩ := hubCommand_acts (seq := seq) (k := .override 1) h rfl rfl rfl
      (takeOverride_set _ (by simpa using hop)) ((keepsQueue_eventCause _ _).after rfl)
    rw [setHostRequest_entered] at hexec hlen hhead
    refine ⟨_, hexec, ?_, ?_, ?_, ?_, ?_, ?_, hlen, hhead, fun hp => ?_⟩
    · simp [eventCause_guard hrun hset', hguard, Causes.addEvent]
    · simp [State.sameTables, requested]
    · simp [requested]
    · simp [requested]
    · simp [requested]
    · simp [requested]
    · have hover := overridden_from hcore (by rw [hguard]) (by rw [hguard])
        (eventCause_overridden hop' hset' ((profiled_congr hcore.seqr).trans hp))
      obtain ⟨stored, a, e, hs, hg, hrow, he, hop'', hhold, hseqr, hover', hnone⟩ :=
        overridden_to (sameCore_answered _ _ _ _) (by simp) hover
      refine ⟨hop'', ?_, ?_, hhold, ⟨stored, a, e, hs, hg, hrow, he, hop'', hhold, hseqr, hover', hnone⟩⟩
      · rw [hseqr]
      · rw [hseqr]

/-! ## Leaving RUN: the swap, the balance unit and the zero setpoint -/

theorem sameCore_alert (s : State) (k : AlertKind) (fs : List Field) : SameCore s (s.alert k fs) := by
  constructor <;> simp

/-- After a cancelled swap none is pending, and the rest of the sequencer stands (R40). -/
theorem cancelSwap_seqr (s : State) (n : Nat) : (s.cancelSwap n).seqr = { s.seqr with swap := none } := by
  unfold State.cancelSwap
  split
  · rename_i h
    rw [← h]
  · rfl

theorem cancelSwap_none {s : State} (n : Nat) (h : s.seqr.swap = none) : s.cancelSwap n = s := by
  simp [State.cancelSwap, h]

theorem endShuttle_active (s : State) (why : EndReason) : (s.endShuttle why).balance.shuttle.active = false := by
  unfold State.endShuttle
  dsimp only
  split
  · rfl
  · rename_i h
    simpa using h

theorem bleedsOff_off (s : State) : s.bleedsOff.anyBleed = false := rfl

/-- Leaving RUN leaves neither the shuttle nor a bleed on, and an ACTIVE shuttle its reason (R138). -/
theorem endBalancing_off (s : State) (why : AbortReason) :
    (s.endBalancing why).balance.shuttle.active = false ∧ (s.endBalancing why).anyBleed = false
      ∧ (s.balance.shuttle.active = true → (s.endBalancing why).balance.shuttle.endReason = .aborted why) := by
  have hshuttle : (s.endBalancing why).balance.shuttle = (s.endShuttle (.aborted why)).balance.shuttle := by
    simp [State.endBalancing]
  refine ⟨by rw [hshuttle]; exact endShuttle_active s _, bleedsOff_off _, fun h => ?_⟩
  rw [hshuttle]
  simp [State.endShuttle, h]

/-- Outside RUN a setpoint called for leaves a low GATE low (R108). -/
theorem callSetpoint_gate {s : State} (hop : s.op ≠ .run) (hg : s.gate = false) : s.callSetpoint.gate = false := by
  simp only [State.callSetpoint, if_neg hop, State.transport]
  split
  · exact hg
  · simp [State.sendSetpoint, hop]

/-- Outside RUN a setpoint called for leaves the computation record (R100). -/
theorem callSetpoint_computation {s : State} (hop : s.op ≠ .run) :
    s.callSetpoint.path.computation = s.path.computation := by
  simp [State.callSetpoint, hop]

/-! ## The entry into HELD -/

theorem holding_seqr (s : State) (c : HoldCause) (b : Bool) :
    (holding s c b).seqr = { s.seqr with goto := none, dwell := pausedDwell s.seqr.dwell } := by
  unfold holding
  rw [dwellSync_eq]
  simp [syncedDwell_paused]

theorem released_frame (s : State) (c : HoldCause) (b : Bool) :
    (released s c b).op = .held ∧ (released s c b).gate = false
      ∧ (released s c b).path = { s.path with handOver := none } ∧ (released s c b).cmd.nodes = s.cmd.nodes
      ∧ (released s c b).hold = { s.hold with record := some (s.snapshot c b) } := by
  simp [released, holding]

theorem enterHeld_blocks (s : State) (c : HoldCause) (b : Bool) :
    (s.enterHeld c b).op = .held ∧ (s.enterHeld c b).gate = false
      ∧ (s.enterHeld c b).hold = { s.hold with record := some (s.snapshot c b) }
      ∧ (s.enterHeld c b).path.handOver = none ∧ (s.enterHeld c b).path.computation = s.path.computation := by
  obtain ⟨hop, hgate, hpath, -, hhold⟩ := released_frame s c b
  have hrun : (released s c b).op ≠ .run := by simp [hop]
  rw [enterHeld_eq]
  simp [hop, hhold, hpath, callSetpoint_gate hrun hgate, callSetpoint_computation hrun]

theorem enterHeld_seqr (s : State) (c : HoldCause) (b : Bool) :
    (s.enterHeld c b).seqr = { s.seqr with swap := none, goto := none, dwell := pausedDwell s.seqr.dwell } := by
  simp [enterHeld_eq, released, cancelSwap_seqr, holding_seqr]

theorem enterHeld_balance (s : State) (c : HoldCause) (b : Bool) :
    (s.enterHeld c b).balance.shuttle.active = false ∧ (s.enterHeld c b).anyBleed = false
      ∧ (s.balance.shuttle.active = true → (s.enterHeld c b).balance.shuttle.endReason = .aborted .hold) := by
  have hbal : (s.enterHeld c b).balance = (((holding s c b).cancelSwap 0).endBalancing .hold).balance := by
    simp [enterHeld_eq, released]
  have hwas : ((holding s c b).cancelSwap 0).balance = s.balance := by simp [holding]
  obtain ⟨hactive, hbleed, hreason⟩ := endBalancing_off ((holding s c b).cancelSwap 0) .hold
  rw [hwas] at hreason
  refine ⟨by rw [hbal]; exact hactive, ?_, by rw [hbal]; exact hreason⟩
  simpa only [State.anyBleed, hbal] using hbleed

/-- HELD's zero setpoint is called for, once (R107, R113, R115). -/
theorem enterHeld_called (s : State) (c : HoldCause) (b : Bool) :
    s.calledFor (s.enterHeld c b) (zeroSetpoint .held s.path.ship s.path.present) := by
  obtain ⟨hop, -, hpath, hnodes, -⟩ := released_frame s c b
  have hcall := callSetpoint_idle (released s c b) (by simp [hop])
  rw [hop, hpath] at hcall
  rw [enterHeld_eq]
  exact calledFor_to (sameCore_alert _ _ _) (calledFor_from hnodes (by rw [hpath]) (by rw [hpath]) hcall)

theorem mem_putAlert (a : Alert) (l : List Alert) : a ∈ putAlert a l := by
  induction l with
  | nil => simp [putAlert]
  | cons x xs ih =>
    unfold putAlert
    split
    · exact List.mem_cons_self
    · exact List.mem_cons_of_mem _ ih

/-- The HOLD alert carries the record (R145). -/
theorem enterHeld_alert (s : State) (c : HoldCause) (b : Bool) :
    (⟨.hold, (s.snapshot c b).fields⟩ : Alert) ∈ (s.enterHeld c b).out.alerts := by
  rw [enterHeld_eq]
  exact mem_putAlert _ _

/-- With no swap to answer, the entry composes no reply. -/
theorem enterHeld_replies {s : State} (c : HoldCause) (b : Bool) (h : s.seqr.swap = none) :
    (s.enterHeld c b).out.replies = s.out.replies := by
  have hswap : (holding s c b).seqr.swap = none := by rw [holding_seqr]; exact h
  rw [enterHeld_eq, released, cancelSwap_none 0 hswap]
  simp [holding]

theorem handCause_run {s : State} (c : HoldCause) (h : s.op = .run) : s.handCause c = s.enterHeld c false := by
  simp [State.handCause, h]

/-- With port U busy a reply stands behind those that wait, and no alert leaves (R162, R180). -/
theorem answered_replies {e : State} (h : e.link.sendingU.isSome) (c : HeldCommand) (status : Status)
    (results : List Field) :
    (e.answer c status results).arbitrate.out.replies = e.out.replies ++ [⟨some c.place, status, c.seq, results⟩] := by
  rw [arbitrate_busy (by simpa using h)]
  rfl

theorem answered_alerts {e : State} (h : e.link.sendingU.isSome) (c : HeldCommand) (status : Status)
    (results : List Field) : (e.answer c status results).arbitrate.out.alerts = e.out.alerts := by
  rw [arbitrate_busy (by simpa using h)]
  rfl

/-! ## HOLD -/

theorem hold_reads (code : Option Word) :
    parseCommand (encodeCommand (.hold code)) = .hold code ∧ isReset hubAddress (encodeCommand (.hold code)) = false
      ∧ ∀ s : State, s.hubWait (encodeCommand (.hold code)) = none := by
  cases code with
  | none => exact ⟨rfl, rfl, fun _ => rfl⟩
  | some w =>
    refine ⟨?_, rfl, fun _ => rfl⟩
    show HubCommand.hold (some (wordOf (hiByte w) (loByte w))) = _
    rw [wordOf_bytes]

theorem takeHold_outside {u : State} (c : HeldCommand) (code : Option Word) (h : u.op ≠ .run) :
    u.takeHold c code = u.answer c .state [.byte u.op.code] := by
  simp [State.takeHold, h]

theorem takeHold_run {u : State} (c : HeldCommand) (code : Option Word) (h : u.op = .run) :
    u.takeHold c code
      = (u.enterHeld (hostCause code) false).answer c .ok (u.snapshot (hostCause code) false).fields := by
  have hrec : (u.enterHeld (hostCause code) false).hold.record = some (u.snapshot (hostCause code) false) := by
    obtain ⟨-, -, hhold, -⟩ := enterHeld_blocks u (hostCause code) false
    rw [hhold]
  simp [State.takeHold, h, handCause_run, State.holdRecordFields, hrec]

theorem entered_snapshot (s : State) (seq : Byte) (k : HubCommand) (c : HoldCause) (b : Bool) :
    (s.entered seq k).snapshot c b = s.snapshot c b := by
  simp [State.snapshot]

/-- The HOLD refused outside RUN (R146). -/
theorem exec_hold_outside {s : State} {seq : Byte} {code : Option Word} (h : s.ready = true) (hop : s.op ≠ .run) :
    exec (.hold seq code) s = .next (s.replied seq (.hold code) .state [.byte s.op.code]) := by
  obtain ⟨hparse, hreset, hwait⟩ := hold_reads code
  have ha := takeHold_outside (u := s.entered seq (.hold code)) (s.heldAs seq (.hold code) .waiting) code
    (by simpa using hop)
  rw [entered_op] at ha
  exact hubCommand_answers h hparse hreset (blockedOn_free (hwait s)) rfl ha

/-- What a HOLD in RUN enters: HELD, from the hub at the command's arrival (R143 to R146). -/
def heldByHost (s : State) (seq : Byte) (code : Option Word) : State :=
  (s.entered seq (.hold code)).enterHeld (hostCause code) false

/-- A HOLD in RUN is answered with the record just written (R146). -/
theorem exec_hold_run {s : State} {seq : Byte} {code : Option Word} (h : s.ready = true) (hop : s.op = .run) :
    exec (.hold seq code) s
      = .next
          ((heldByHost s seq code).answer (s.heldAs seq (.hold code) .waiting) .ok
            (s.snapshot (hostCause code) false).fields).arbitrate := by
  obtain ⟨hparse, hreset, hwait⟩ := hold_reads code
  have ha := takeHold_run (u := s.entered seq (.hold code)) (s.heldAs seq (.hold code) .waiting) code
    (by simpa using hop)
  rw [entered_snapshot] at ha
  obtain ⟨hexec, -⟩ := hubCommand_acts h hparse hreset (hwait s) ha (keepsQueue_enterHeld _ _ _)
  exact hexec

/-- The blocks that a HOLD in RUN leaves, against the hub at its arrival (R65, R138, R143, R144). -/
theorem heldByHost_blocks (s : State) (seq : Byte) (code : Option Word) :
    (heldByHost s seq code).op = .held ∧ (heldByHost s seq code).gate = false
      ∧ (heldByHost s seq code).hold = { s.hold with record := some (s.snapshot (hostCause code) false) }
      ∧ (heldByHost s seq code).path.handOver = none
      ∧ (heldByHost s seq code).path.computation = s.path.computation
      ∧ (heldByHost s seq code).seqr
        = { s.seqr with swap := none, goto := none, dwell := pausedDwell s.seqr.dwell }
      ∧ (heldByHost s seq code).balance.shuttle.active = false ∧ (heldByHost s seq code).anyBleed = false
      ∧ (s.balance.shuttle.active = true → (heldByHost s seq code).balance.shuttle.endReason = .aborted .hold) := by
  obtain ⟨hop, hgate, hhold, hrec, hcomp⟩ := enterHeld_blocks (s.entered seq (.hold code)) (hostCause code) false
  have hseqr := enterHeld_seqr (s.entered seq (.hold code)) (hostCause code) false
  obtain ⟨hactive, hbleed, hreason⟩ := enterHeld_balance (s.entered seq (.hold code)) (hostCause code) false
  simp only [entered_frame, entered_snapshot] at hhold hcomp hseqr hreason
  exact ⟨hop, hgate, hhold, hrec, hcomp, hseqr, hactive, hbleed, hreason⟩

theorem heldByHost_called (s : State) (seq : Byte) (code : Option Word) :
    s.calledFor (heldByHost s seq code) (zeroSetpoint .held s.path.ship s.path.present) := by
  have hcall := enterHeld_called (s.entered seq (.hold code)) (hostCause code) false
  simp only [entered_frame] at hcall
  exact calledFor_from (by simp) (by simp) (by simp) hcall

/-- With port U busy a HOLD's alert and replies wait in the output queues (R145, R146, R180). -/
theorem heldByHost_busy {s : State} (seq : Byte) (code : Option Word) (h : s.link.sendingU.isSome) :
    (heldByHost s seq code).link.sendingU.isSome
      ∧ (⟨.hold, (s.snapshot (hostCause code) false).fields⟩ : Alert) ∈ (heldByHost s seq code).out.alerts
      ∧ (s.seqr.swap = none → (heldByHost s seq code).out.replies = s.out.replies) := by
  have halert := enterHeld_alert (s.entered seq (.hold code)) (hostCause code) false
  rw [entered_snapshot] at halert
  refine ⟨by simpa [heldByHost, entered_busy h] using h, halert, fun hswap => ?_⟩
  rw [heldByHost, enterHeld_replies _ _ (by simpa using hswap), entered_busy h]
  rfl

/-- Settles O31: what the entry into HELD leaves, then the reply that follows it. -/
theorem holdEnters : Obligations.HoldEnters := by
  intro s seq code h
  refine ⟨exec_hold_outside h, fun hop => ?_⟩
  obtain ⟨hop', hgate, hhold, hrec, hcomp, hseqr, hactive, hbleed, hreason⟩ := heldByHost_blocks s seq code
  refine ⟨_, exec_hold_run h hop, ?_, ?_, ?_, ?_, ?_, ?_, ?_, ?_, ?_, ?_, ?_, ?_, ?_, ?_, ?_, ?_, ?_, ?_⟩
  · simpa using hop'
  · simpa using hgate
  · simp [State.sameTables, heldByHost]
  · simp [hhold]
  · simp only [State.arbitrate_frame, State.answer_frame, hhold]
    rfl
  · simp [heldByHost]
  · simp only [State.arbitrate_frame, State.answer_frame, hseqr]
    cases s.seqr.dwell <;> rfl
  · simpa using hactive
  · simpa [State.anyBleed] using hbleed
  · simpa using hreason
  · simpa using hrec
  · simpa using hcomp
  · simp [heldByHost]
  · simp [heldByHost]
  · simp [heldByHost]
  · exact calledFor_to (sameCore_answered _ _ _ _) (heldByHost_called s seq code)
  · intro r hr hbusy hnil hswap
    obtain ⟨hsending, halert, hkept⟩ := heldByHost_busy seq code hbusy
    obtain rfl : s.snapshot (hostCause code) false = r := by simpa [hhold] using hr
    rw [answered_replies hsending, answered_alerts hsending, hkept hswap, hnil]
    exact ⟨rfl, halert⟩
  · intro r hr hbusy
    obtain ⟨hsending, -, -⟩ := heldByHost_busy seq code hbusy
    obtain rfl : s.snapshot (hostCause code) false = r := by simpa [hhold] using hr
    rw [answered_replies hsending]
    exact List.mem_append_right _ List.mem_cons_self

/-! ## The move to CONFIG -/

theorem emptyCauses_guard (s : State) :
    s.emptyCauses.guard
      = { s.guard with
          causes := Causes.none, hostReq := false
          changes := if s.guard.causes = Causes.none then s.guard.changes else (s.guard.changes + 1) % 256 } := by
  simp only [State.emptyCauses, changeCauses_guard, eq_comm]

/-- What the blocks are when CONFIG's setpoint is called for (R66, R85, R87, R189). -/
theorem leaving_blocks (s : State) :
    (leaving s).op = .config ∧ (leaving s).gate = false ∧ (leaving s).path = { s.path with handOver := none }
      ∧ (leaving s).cmd.nodes = s.cmd.nodes
      ∧ (leaving s).seqr = { s.seqr with swap := none, goto := none, dwell := .noDwell, effective := none }
      ∧ (leaving s).guard
        = { s.guard with
            causes := Causes.none, hostReq := false
            changes := if s.guard.causes = Causes.none then s.guard.changes else (s.guard.changes + 1) % 256 } := by
  refine ⟨?_, ?_, ?_, ?_, ?_, ?_⟩
  · simp [leaving, State.emptyCauses, State.stopSequencer]
  · simp [leaving, State.emptyCauses, State.stopSequencer]
  · simp [leaving, State.emptyCauses, State.stopSequencer]
  · simp [leaving, State.emptyCauses, State.stopSequencer]
  · simp [leaving, State.emptyCauses, State.stopSequencer, cancelSwap_seqr]
  · simp [leaving, emptyCauses_guard, State.stopSequencer]

theorem leaveForConfig_blocks (s : State) :
    s.leaveForConfig.op = .config ∧ s.leaveForConfig.gate = false ∧ s.leaveForConfig.path.handOver = none
      ∧ s.leaveForConfig.hold = s.hold
      ∧ s.leaveForConfig.seqr = { s.seqr with swap := none, goto := none, dwell := .noDwell, effective := none }
      ∧ s.leaveForConfig.guard
        = { s.guard with
            causes := Causes.none, hostReq := false
            changes := if s.guard.causes = Causes.none then s.guard.changes else (s.guard.changes + 1) % 256 } := by
  obtain ⟨hop, hgate, hpath, -, hseqr, hguard⟩ := leaving_blocks s
  refine ⟨?_, callSetpoint_gate (s := leaving s) (by simp [hop]) hgate, ?_, by simp, ?_, ?_⟩
  · simp [leaveForConfig_eq, hop]
  · simp [leaveForConfig_eq, hpath]
  · simp [leaveForConfig_eq, hseqr]
  · simp [leaveForConfig_eq, hguard]

theorem leaveForConfig_balance (s : State) :
    s.leaveForConfig.balance.shuttle.active = false ∧ s.leaveForConfig.anyBleed = false := by
  have hbal : s.leaveForConfig.balance = (leaving s).balance := by simp [leaveForConfig_eq]
  obtain ⟨hactive, hbleed, -⟩ := endBalancing_off
    ((State.cancelSwap { s with op := .config, gate := false } 1).stopSequencer).emptyCauses .stop
  refine ⟨by rw [hbal]; exact hactive, ?_⟩
  unfold State.anyBleed
  rw [hbal]
  exact hbleed

/-- CONFIG's setpoint is called for, once (R107, R113). -/
theorem leaveForConfig_called (s : State) :
    s.calledFor s.leaveForConfig (zeroSetpoint .config s.path.ship s.path.present) := by
  obtain ⟨hop, -, hpath, hnodes, -, -⟩ := leaving_blocks s
  have hcall := callSetpoint_idle (leaving s) (by simp [hop])
  rw [hop, hpath] at hcall
  exact calledFor_from hnodes (by rw [hpath]) (by rw [hpath]) hcall

/-! ## RESUME STOP -/

/-- RESUME STOP up to the move to CONFIG: the breach marks emptied, the record resolved, the pending hold discarded (R149,
R153). -/
def resolved (s : State) : State := { s.acceptResume .stop with hold.pendingHold := none }

/-- What RESUME STOP finds when it moves to CONFIG. -/
theorem resolved_entered (s : State) (seq : Byte) (k : HubCommand) :
    let u := resolved (s.entered seq k)
    u.seqr = s.seqr ∧ u.guard = s.guard ∧ u.path = s.path ∧ u.balance = s.balance ∧ u.cmd.nodes = s.cmd.nodes
      ∧ u.routes = s.routes ∧ u.fold = s.fold
      ∧ u.hold = ⟨s.hold.record.map fun h => { h with resolution := some (.resumed .stop) }, none⟩
      ∧ (u.cell .one).breach = Breach.none ∧ (u.cell .two).breach = Breach.none := by
  simp [resolved, State.acceptResume, State.cell, PerCell.get]

theorem takeResume_outside {u : State} (c : HeldCommand) (h : u.op ≠ .held) :
    u.takeResume c 4 = u.answer c .state (u.resumeResults 4 false) := by
  simp [State.takeResume, h, State.refuseResume]

theorem takeResume_stop {u : State} (c : HeldCommand) (h : u.op = .held) :
    u.takeResume c 4
      = (resolved u).leaveForConfig.answer c .ok ((resolved u).leaveForConfig.resumeResults 4 false) := by
  simp [State.takeResume, h, State.resumeStop, resolved, Disposition.code]

/-- Settles O33: what the move to CONFIG leaves, then the reply that follows it. -/
theorem resumeStopLeaves : Obligations.ResumeStopLeaves := by
  intro s seq h
  refine ⟨fun hop => ?_, fun hop => ?_⟩
  · refine hubCommand_answers h rfl rfl (blockedOn_free rfl) rfl ?_
    have ha := takeResume_outside (u := s.entered seq (.resume 4)) (s.heldAs seq (.resume 4) .waiting)
      (by simpa using hop)
    refine ha.trans ?_
    simp [State.resumeResults]
  · obtain ⟨hseqr0, hguard0, hpath0, hbalance0, hnodes0, hroutes0, hfold0, hhold0, hone, htwo⟩ :=
      resolved_entered s seq (.resume 4)
    generalize hu : resolved (s.entered seq (.resume 4)) = u at *
    have hact := takeResume_stop (u := s.entered seq (.resume 4)) (s.heldAs seq (.resume 4) .waiting)
      (by simpa using hop)
    have hq : KeepsQueue (s.entered seq (.resume 4)) u.leaveForConfig :=
      (keepsQueue_leaveForConfig u).after (by rw [← hu]; rfl)
    rw [hu] at hact
    obtain ⟨hexec, -⟩ := hubCommand_acts (seq := seq) (k := .resume 4) h rfl rfl rfl hact hq
    obtain ⟨hop', hgate, hrec, hhold, hseqr, hguard⟩ := leaveForConfig_blocks u
    obtain ⟨hactive, hbleed⟩ := leaveForConfig_balance u
    have hcall := leaveForConfig_called u
    rw [hpath0] at hcall
    refine ⟨_, hexec, ?_, ?_, ?_, ?_, ?_, ?_, ?_, ?_, ?_, ?_, ?_, ?_, ?_, ?_, ?_, ?_⟩
    · simpa using hop'
    · simpa using hgate
    · simp [hhold0]
    · simp [hhold0]
    · simp [hseqr, hseqr0]
    · simp [hguard, hguard0]
    · simpa [State.cell] using hone
    · simpa [State.cell] using htwo
    · simpa using hactive
    · simpa [State.anyBleed] using hbleed
    · simp [hbalance0]
    · simpa using hrec
    · simp [hpath0]
    · simp [hroutes0]
    · simp [hfold0]
    · exact calledFor_to (sameCore_answered _ _ _ _) (calledFor_from hnodes0 (by rw [hpath0]) (by rw [hpath0]) hcall)

/-! ## The evaluation on entering RUN -/

/-- With a round to hand over, entering RUN is the evaluation on the last round (R151, R187). -/
theorem evaluateEntry_round {s : State} {a : StepAddr} {e : StepEntry} (h : s.resolve = .found a e)
    (hl : s.cells.lastRound.isSome) : s.evaluateEntry = s.evaluateLast := by
  obtain ⟨-, -, -, -, hflag, -⟩ := evaluateLast_seqr h
  rw [hl] at hflag
  simp [State.evaluateEntry, hflag]

/-- With none a setpoint is called for (R89, R187). -/
theorem evaluateEntry_noRound {s : State} {a : StepAddr} {e : StepEntry} (h : s.resolve = .found a e)
    (hop : s.op = .run) (hl : s.cells.lastRound = none) :
    s.evaluateEntry = ((stepped s a).callSetpoint, false) := by
  have hlast : s.evaluateLast = (stepped s a, false) := by rw [evaluateLast_found h, hl]
  have hrun : (stepped s a).op = .run := hop
  simp [State.evaluateEntry, hlast, hrun]

theorem evaluateEntry_seqr {s : State} {a : StepAddr} {e : StepEntry} (h : s.resolve = .found a e)
    (hop : s.op = .run) :
    s.evaluateEntry.1.op = .run ∧ s.evaluateEntry.1.hold = s.hold ∧ s.evaluateEntry.1.out.replies = s.out.replies
      ∧ s.evaluateEntry.2 = s.cells.lastRound.isSome
      ∧ s.evaluateEntry.1.seqr
        = { s.seqr with effective := some a, dwell := syncedDwell s.op s.guard.causes s.seqr.dwell } := by
  cases hl : s.cells.lastRound with
  | none =>
    rw [evaluateEntry_noRound h hop hl]
    simp [stepped, hop]
  | some r =>
    rw [evaluateEntry_round h (by simp [hl])]
    obtain ⟨hop', hhold, hreplies, -, hflag, hseqr⟩ := evaluateLast_seqr h
    exact ⟨hop'.trans hop, hhold, hreplies, by rw [hflag, hl], hseqr⟩

/-- Entering RUN with a running profile: the effective step handed over with the last round, or with none a setpoint computed
from the hand-over record as it stands (R50, R81, R89, R151, R187). -/
theorem evaluateEntry_entersRun {s : State} (hp : s.profiled = true) (hop : s.op = .run) :
    s.entersRun s.evaluateEntry.1 := by
  obtain ⟨stored, a, e, hs, hg, he, hr⟩ := resolve_profiled hp
  obtain ⟨-, -, -, -, hseqr⟩ := evaluateEntry_seqr hr hop
  have hguard : s.evaluateEntry.1.guard = s.guard := by simp
  refine ⟨stored, a, e, by rw [hseqr]; exact hs, by rw [hguard]; exact hg, ?_, by rw [hseqr], fun r hl => ?_,
    fun hl => ?_⟩
  · unfold State.entryAt
    rw [hseqr]
    exact he
  · rw [evaluateEntry_round hr (by simp [hl])]
    exact evaluateLast_handedOver hr hop r hl
  · rw [evaluateEntry_noRound hr hop hl]
    obtain ⟨hcomp, hcall⟩ := callSetpoint_run (stepped s a) hop
    rw [compute_congr (sameFigures_stepped s a)] at hcomp hcall
    exact ⟨by simp [stepped], by simp [stepped], hcomp, (sameFigures_stepped s a).calledFor hcall⟩

theorem entersRun_from {s u t : State} (h : SameFigures s u) (ho : u.entersRun t) : s.entersRun t := by
  obtain ⟨stored, a, e, hs, hg, he, heff, hover, hnone⟩ := ho
  refine ⟨stored, a, e, hs, hg, he, heff, h.handedOver hover, fun hl => ?_⟩
  obtain ⟨hrec, hbal, hcomp, hcall⟩ := hnone (by rw [h.cells]; exact hl)
  rw [compute_congr h] at hcomp hcall
  have hcall' := h.calledFor hcall
  obtain ⟨ship, hpath⟩ := h.path
  exact ⟨by rw [hrec, hpath], hbal.trans h.balance, hcomp, hcall'⟩

theorem entersRun_to {s t t' : State} (h : SameCore t t') (hc : t'.guard.causes = t.guard.causes)
    (ho : s.entersRun t) : s.entersRun t' := by
  obtain ⟨stored, a, e, hs, hg, he, heff, hover, hnone⟩ := ho
  have hover' := handedOver_to h hover
  refine ⟨stored, a, e, by rw [h.seqr]; exact hs, by rw [hc]; exact hg, ?_, by rw [h.seqr]; exact heff, hover',
    fun hl => ?_⟩
  · simpa only [State.entryAt, h.seqr] using he
  · obtain ⟨hrec, hbal, hcomp⟩ := hnone hl
    exact ⟨by rw [h.path]; exact hrec, h.balance.trans hbal, computedFor_to h hcomp⟩

/-! ## START -/

/-- The dwell timer at a fresh entry, outside RUN (R45). -/
def loadedDwell (dwell : Option Nat) : DwellTimer :=
  match dwell with
  | some n => .paused (1000 * n)
  | none => .noDwell

theorem enterFresh_seqr (s : State) (a : StepAddr) :
    (s.enterFresh a).seqr
      = { s.seqr with
          stored := some a, t := false, d := false, firstEval := true, lastTest := none
          dwell := syncedDwell s.op s.guard.causes (loadedDwell ((s.entryAt a).bind (·.dwell))) } := by
  unfold State.enterFresh
  rw [dwellSync_eq]
  rfl

/-- The causes a START seeds into an empty set (R84). -/
def seeded (s : State) : Causes :=
  { Causes.none with
    stale := decide ((s.cell .one).monitor ≠ .fresh) || decide ((s.cell .two).monitor ≠ .fresh)
    link := s.guard.linkMark }

theorem startFailure_none {s : State} {a : StepAddr} (h : s.startFailure a = none) :
    a.row ≠ overrideRow ∧ bankComplete (s.seqr.bank a.bank) = true := by
  unfold State.startFailure at h
  split at h
  · simp at h
  · rename_i hrow
    split at h
    · simp at h
    · rename_i hcol
      exact ⟨fun hr => hrow (.inl hr), by rw [bankComplete, hcol]; rfl⟩

theorem seededCauses_eq {u : State} (h : u.guard.causes = Causes.none) : u.seededCauses = seeded u := by
  have hstale : (!u.bothFresh)
      = (decide ((u.cell .one).monitor ≠ .fresh) || decide ((u.cell .two).monitor ≠ .fresh)) := by
    unfold State.bothFresh State.cell PerCell.get
    cases u.cells.records.one.monitor <;> cases u.cells.records.two.monitor <;> rfl
  simp only [State.seededCauses, h, hstale]
  rfl

/-- START before it seeds the cause set: the lock, the designation, the fresh entry, ship mode and the state (R187). -/
def started (s : State) (a : StepAddr) : State :=
  { State.enterFresh { s with guard.lock := true, seqr.designation := some a.bank } a with path.ship := false, op := .run }

theorem startSteps_eq (s : State) (a : StepAddr) :
    s.startSteps a = (started s a).changeCauses .start (started s a).seededCauses none := rfl

theorem started_seeded {s : State} (a : StepAddr) (h : s.guard.causes = Causes.none) :
    (started s a).seededCauses = seeded s := by
  have hcell (c : CellId) : (started s a).cell c = s.cell c := by simp [started, State.cell]
  have hmark : (started s a).guard.linkMark = s.guard.linkMark := by simp [started]
  rw [seededCauses_eq (by simpa [started] using h), seeded, hcell, hcell, hmark, seeded]

theorem startSteps_guard {s : State} (a : StepAddr) (h : s.guard.causes = Causes.none) :
    (s.startSteps a).guard
      = { s.guard with
          lock := true, causes := seeded s
          changes := if seeded s = Causes.none then s.guard.changes else (s.guard.changes + 1) % 256 } := by
  rw [startSteps_eq, started_seeded a h, changeCauses_guard]
  simp [started, h]

/-- A START's step is loaded with its dwell paused: the state is not yet RUN when it is entered (R45, R57, R187). -/
theorem startSteps_seqr {s : State} {a : StepAddr} {e : StepEntry} (hop : s.op = .config) (he : s.entryAt a = some e) :
    (s.startSteps a).seqr
      = { s.seqr with
          designation := some a.bank, stored := some a, t := false, d := false, firstEval := true, lastTest := none
          dwell := loadedDwell e.dwell } := by
  have he' : State.entryAt { s with guard.lock := true, seqr.designation := some a.bank } a = some e := he
  have hload (w : Option Nat) : pausedDwell (loadedDwell w) = loadedDwell w := by cases w <;> rfl
  rw [startSteps_eq]
  simp only [State.changeCauses_frame, started, enterFresh_seqr, he', Option.bind_some]
  rw [syncedDwell_paused (by simp [hop]), hload]

/-- The profile that START designates runs (R30). -/
theorem startSteps_profiled {s : State} {a : StepAddr} {e : StepEntry} (hop : s.op = .config)
    (he : s.entryAt a = some e) (hf : s.startFailure a = none) : (s.startSteps a).profiled = true := by
  obtain ⟨hrow, hcomplete⟩ := startFailure_none hf
  have hbank (id : BankId) : (s.startSteps a).seqr.bank id = s.seqr.bank id := by
    rw [startSteps_seqr hop he]
    cases id <;> rfl
  have he' : (s.startSteps a).entryAt a = some e := by
    rw [State.entryAt, hbank]
    exact he
  have hq := startSteps_seqr hop he
  exact profiled_of (by rw [hq]) (by rw [hq]) hrow (by simp [he']) (by rw [hbank]; exact hcomplete)

theorem takeStart_runs {u : State} {bank row col : Byte} {a : StepAddr} (c : HeldCommand) (hop : u.op = .config)
    (ha : addressOf bank row col = some a) (hf : u.startFailure a = none) :
    u.takeStart c bank row col
      = (u.startSteps a).evaluateEntry.1.answer c .ok
          [.step (u.startSteps a).evaluateEntry.1.seqr.stored, .bank (u.startSteps a).evaluateEntry.1.seqr.designation,
            .step (u.startSteps a).evaluateEntry.1.seqr.effective, .causes (u.startSteps a).evaluateEntry.1.guard.causes,
            .mark u.guard.lock, .mark (u.startSteps a).evaluateEntry.2] := by
  simp [State.takeStart, hop, ha, hf]

theorem entered_startFailure (s : State) (seq : Byte) (k : HubCommand) (a : StepAddr) :
    (s.entered seq k).startFailure a = s.startFailure a := by
  simp only [State.startFailure, entered_entryAt, entered_frame]

theorem entered_seeded (s : State) (seq : Byte) (k : HubCommand) : seeded (s.entered seq k) = seeded s := by
  have hcell (c : CellId) : (s.entered seq k).cell c = s.cell c := by simp [State.cell]
  have hmark : (s.entered seq k).guard.linkMark = s.guard.linkMark := by simp
  rw [seeded, hcell, hcell, hmark, seeded]

/-- What START's evaluation finds, against the hub at the command's arrival (R45, R73, R84, R187). -/
theorem startSteps_entered {s : State} {a : StepAddr} {e : StepEntry} (seq : Byte) (k : HubCommand)
    (hop : s.op = .config) (he : s.entryAt a = some e) (hc : s.guard.causes = Causes.none)
    (hf : s.startFailure a = none) :
    let w := (s.entered seq k).startSteps a
    w.op = .run ∧ w.profiled = true ∧ w.path = { s.path with ship := false } ∧ w.hold = s.hold ∧ s.sameTables w
      ∧ SameFigures s w
      ∧ w.guard
        = { s.guard with
            lock := true, causes := seeded s
            changes := if seeded s = Causes.none then s.guard.changes else (s.guard.changes + 1) % 256 }
      ∧ w.seqr
        = { s.seqr with
            designation := some a.bank, stored := some a, t := false, d := false, firstEval := true, lastTest := none
            dwell := loadedDwell e.dwell } := by
  have hop' : (s.entered seq k).op = .config := by simpa using hop
  have he' : (s.entered seq k).entryAt a = some e := (entered_entryAt s seq k a).trans he
  have hf' : (s.entered seq k).startFailure a = none := (entered_startFailure s seq k a).trans hf
  refine ⟨?_, startSteps_profiled hop' he' hf', ?_, ?_, ?_, ?_, ?_, ?_⟩
  · simp [startSteps_eq, started]
  · simp [startSteps_eq, started]
  · simp
  · simp [State.sameTables]
  · refine ⟨?_, ?_, ?_, ⟨false, ?_⟩, ?_, ?_⟩ <;> simp [startSteps_eq, started]
  · rw [startSteps_guard a (by simpa using hc), entered_seeded]
    simp
  · rw [startSteps_seqr hop' he']
    simp

/-- Settles O28: what START writes (`startSteps_entered`), then its evaluation (`evaluateEntry_entersRun`). -/
theorem startRuns : Obligations.StartRuns := by
  intro s seq bank row col a e h hop ha hf he hc stale seed
  have hact := takeStart_runs (u := s.entered seq (.start bank row col)) (s.heldAs seq (.start bank row col) .waiting)
    (by simpa using hop) ha ((entered_startFailure _ _ _ _).trans hf)
  have hcmd : KeepsQueue (s.entered seq (.start bank row col)) ((s.entered seq (.start bank row col)).startSteps a) :=
    keepsQueue_of_held (by simp)
  have hout (hbusy : s.link.sendingU.isSome) :
      ((s.entered seq (.start bank row col)).startSteps a).out.replies = s.out.replies
        ∧ ((s.entered seq (.start bank row col)).startSteps a).link.sendingU = s.link.sendingU := by
    simp [entered_busy hbusy]
  obtain ⟨hrun, hprof, hpath, hhold, htables, hfig, hguard, hseqr⟩ :=
    startSteps_entered seq (.start bank row col) hop he hc hf
  generalize (s.entered seq (.start bank row col)).startSteps a = w at *
  obtain ⟨-, b, eb, -, -, -, hres⟩ := resolve_profiled hprof
  obtain ⟨hop', hhold', hreplies, hflag, hseqr'⟩ := evaluateEntry_seqr hres hrun
  rw [hrun, hguard, hseqr] at hseqr'
  obtain ⟨hexec, -⟩ := hubCommand_acts (seq := seq) (k := .start bank row col) h rfl rfl rfl hact
    (hcmd.trans (keepsQueue_evaluateEntry w))
  refine ⟨_, hexec, ?_, ?_, ?_, ?_, ?_, ?_, ?_, ?_, ?_, ?_, ?_, ?_, ?_, ?_, ?_, ?_, ?_, ?_, ?_, ?_⟩
  · simpa using hop'
  · simp [hpath]
  · simpa [State.sameTables] using htables
  · simp only [State.arbitrate_frame, State.answer_frame, State.evaluateEntry_frame, hguard]
    rfl
  · simp [hseqr']
  · simp [hseqr']
  · simp [hseqr']
  · simp [hseqr']
  · simp [hseqr']
  · simp [hseqr']
  · simp [hseqr']
  · simp [hseqr']
  · simp only [State.arbitrate_frame, State.answer_frame, hseqr']
    cases e.dwell with
    | none => rfl
    | some n => simp [loadedDwell, syncedDwell, seeded, seed, stale]
  · exact entersRun_to (sameCore_answered _ _ _ _) (by simp) (entersRun_from hfig (evaluateEntry_entersRun hprof hrun))
  · simp [hpath]
  · simp [hpath]
  · simp [hpath]
  · simp [hpath]
  · simp [hhold', hhold]
  · intro hbusy hnil
    obtain ⟨hempty, hsending⟩ := hout hbusy
    rw [answered_replies (by simpa [hsending] using hbusy)]
    simp only [hreplies, hempty, hnil, List.nil_append, State.arbitrate_frame, State.answer_frame, hseqr', hflag,
      hfig.cells, State.evaluateEntry_frame, hguard, entered_frame]
    rfl

end Sys2Proof.Sequencing
end

section
/-! SUPPORT. LOAD_TABLE to the guard, limit and balance tables: when an entry is written, the range it is brought into,
and the marks its reply carries (R68 to R71, R122, R123). -/

namespace Sys2Proof.Tables

open Sys2Proof.Machine Sys2Proof.Sequencing

/-! ## Indices, ranges and values -/

theorem indexOf_unnamed {n : Nat} {i : Byte} (h : i.toNat ≥ n) : indexOf n i = none := dif_neg (by omega)

theorem indexOf_named {n : Nat} {i : Byte} {k : Fin n} (h : i.toNat = k.val) : indexOf n i = some k := by
  rw [indexOf, dif_pos (h ▸ k.isLt)]
  exact congrArg some (Fin.ext h)

/-- A value that its range leaves as it is gives OK, and a moved one CLAMPED. -/
theorem okOr_ne (x given : Int) : okOr (x ≠ given) = if x = given then .ok else .clamped := by
  by_cases h : x = given <;> simp [okOr, h]

/-- The clamp of an entry whose lower and upper bounds stand in two columns. -/
theorem clampEntry_zip {n : Nat} (lo hi : Vector Int n) (k : Fin n) (x : Int) :
    clampEntry (lo.zip hi) k x = max lo[k] (min hi[k] x) := by
  simp [clampEntry, clampTo]

/-- R68's two columns of bounds. -/
theorem guardRanges_zip :
    guardRanges
      = Vector.zip #v[3000, 2000, -200, -400, 40, 3000, 25, 70] #v[4800, 4000, 800, 600, 1000, 20000, 8000, 98] := by
  simp [guardRanges]

/-- R70's two columns of bounds. -/
theorem limitRanges_zip :
    limitRanges = Vector.zip #v[4200, 2000, 400, 0, 1000, 50] #v[4800, 3200, 850, 8000, 8000, 2000] := by
  simp [limitRanges]

/-- R122's two columns of bounds. -/
theorem balanceRanges_zip :
    balanceRanges = Vector.zip #v[5, 0, 1, 3000, 100, 10, 0] #v[200, 199, 200, 4600, 2000, 3600, 3600] := by
  simp [balanceRanges]

theorem guardValue_eq (k : Fin 8) (w : Word) :
    guardValue k w = if k.val = 2 ∨ k.val = 3 then w.toInt else w.toNat := by
  simp [guardValue, Fin.ext_iff]

theorem limitValue_eq (k : Fin 6) (w : Word) : limitValue k w = if k.val = 2 then w.toInt else w.toNat := by
  simp [limitValue, Fin.ext_iff]

theorem limitField_eq (k : Fin 6) (x : Int) : limitField k x = if k.val = 5 then .long x else .word x := by
  simp [limitField, Fin.ext_iff]

/-! ## The command in a ready state -/

theorem entered_guard (s : State) (seq : Byte) (k : HubCommand) : (s.entered seq k).guard = s.guard := by simp

theorem entered_balance (s : State) (seq : Byte) (k : HubCommand) : (s.entered seq k).balance = s.balance := by simp

/-- A command that writes the balance unit acts on the state it finds. -/
theorem entered_withBalance (s : State) (b : BalanceUnit) (seq : Byte) (k : HubCommand) :
    State.entered { s with balance := b } seq k = { s.entered seq k with balance := b } := by
  simp only [State.entered, arbitrate_eq]
  rfl

theorem loadGuard_reads (index : Byte) (value : Word) :
    parseCommand (encodeCommand (.loadGuard index value)) = .loadGuard index value := by
  simp [encodeCommand, parseCommand, readLoadTable]

theorem loadLimit_reads (index : Byte) (value : Word) :
    parseCommand (encodeCommand (.loadLimit index value)) = .loadLimit index value := by
  simp [encodeCommand, parseCommand, readLoadTable]

theorem loadBalance_reads (index : Byte) (value : Word) :
    parseCommand (encodeCommand (.loadBalance index value)) = .loadBalance index value := by
  simp [encodeCommand, parseCommand, readLoadTable]

/-- LOAD_TABLE, name 4, waits on nothing (R158, R183). -/
theorem loadTable_free (s : State) {k : HubCommand} {args : List Byte} (hk : encodeCommand k = 4 :: args) :
    s.hubWait (encodeCommand k) = none := by
  simp [State.hubWait, hk]

/-- A LOAD_TABLE that changes the hub from `s` to `t` and is answered. -/
theorem hubCommand_loadTable {s t : State} {seq : Byte} {k : HubCommand} {args : List Byte} {status : Status}
    {results : List Field} (h : s.ready = true) (hp : parseCommand (encodeCommand k) = k)
    (hk : encodeCommand k = 4 :: args) (hheld : t.cmd.held = s.cmd.held)
    (ha : (s.entered seq k).act (s.heldAs seq k .waiting) k
      = (t.entered seq k).answer (s.heldAs seq k .waiting) status results) :
    s.hubCommand seq k = .next (t.replied seq k status results) :=
  hubCommand_answers h hp (by simp [isReset, hk]) (blockedOn_free (loadTable_free s hk)) hheld ha

/-! ## The guard table (R68, R69) -/

section
variable {u : State} (c : HeldCommand) {index : Byte} (value : Word)

theorem loadGuard_unnamed (h : index.toNat ≥ 8) : u.loadGuard c index value = u.answer c .badEntry [] := by
  rw [State.loadGuard, indexOf_unnamed h]

theorem loadGuard_outside (h : index.toNat < 8) (hop : u.op ≠ .config) :
    u.loadGuard c index value = u.answer c .state [] := by
  rw [State.loadGuard, indexOf_named (k := ⟨_, h⟩) rfl]
  exact if_neg hop

theorem loadGuard_config {k : Fin 8} (h : index.toNat = k.val) (hop : u.op = .config) :
    let x := clampEntry guardRanges k (guardValue k value)
    let g : GuardUnit := { u.guard with table := u.guard.table.set k x }
    u.loadGuard c index value
      = State.answer { u with guard := g } c (okOr (x ≠ guardValue k value)) (.word x :: g.relations) := by
  rw [State.loadGuard, indexOf_named h]
  exact if_pos hop

/-! ## The limit table (R70, R71) -/

theorem loadLimit_unnamed (h : index.toNat ≥ 6) :
    u.loadLimit c index value = u.answer c .badEntry u.guard.limitMarks := by
  rw [State.loadLimit, indexOf_unnamed h]

theorem loadLimit_run (h : index.toNat < 6) (hop : u.op = .run) :
    u.loadLimit c index value = u.answer c .state u.guard.limitMarks := by
  rw [State.loadLimit, indexOf_named (k := ⟨_, h⟩) rfl]
  exact if_pos hop

theorem loadLimit_locked (h : index.toNat < 6) (hop : u.op = .config) (hl : u.guard.lock = true) :
    u.loadLimit c index value = u.answer c .locked u.guard.limitMarks := by
  rw [State.loadLimit, indexOf_named (k := ⟨_, h⟩) rfl]
  exact (if_neg (by simp [hop])).trans (if_pos ⟨hop, hl⟩)

theorem loadLimit_open {k : Fin 6} (h : index.toNat = k.val)
    (hop : u.op = .held ∨ u.op = .config ∧ u.guard.lock = false) :
    let x := clampEntry limitRanges k (limitValue k value)
    let g : GuardUnit := { u.guard with limits := u.guard.limits.set k x }
    u.loadLimit c index value
      = State.answer { u with guard := g } c (okOr (x ≠ limitValue k value)) (limitField k x :: g.limitMarks) := by
  have hrun : u.op ≠ .run := by rcases hop with hop | ⟨hop, -⟩ <;> simp [hop]
  have hlocked : ¬ (u.op = .config ∧ u.guard.lock = true) := by rcases hop with hop | ⟨-, hl⟩ <;> simp [*]
  rw [State.loadLimit, indexOf_named h]
  exact (if_neg hrun).trans (if_neg hlocked)

/-! ## The balance table (R122, R123) -/

theorem loadBalance_unnamed (h : index.toNat ≥ 7) :
    u.loadBalance c index value = u.answer c .badEntry [.mark u.balance.related] := by
  rw [State.loadBalance, indexOf_unnamed h]

theorem loadBalance_outside {k : Fin 7} (h : index.toNat = k.val) (hop : u.op ≠ .config) :
    u.loadBalance c index value = u.answer c .state [.word u.balance.table[k], .mark u.balance.related] := by
  rw [State.loadBalance, indexOf_named h]
  exact if_neg hop

theorem loadBalance_config {k : Fin 7} (h : index.toNat = k.val) (hop : u.op = .config) :
    let x := clampEntry balanceRanges k value.toNat
    let b : BalanceUnit := { u.balance with table := u.balance.table.set k x }
    u.loadBalance c index value
      = State.answer { u with balance := b } c (okOr (x ≠ value.toNat)) [.word x, .mark b.related] := by
  rw [State.loadBalance, indexOf_named h]
  exact if_pos hop

end

/-! ## The obligations -/

/-- Settles O22, table by table: index, operating state, then the write. -/
theorem guardAndBalanceTablesWritten : Obligations.GuardAndBalanceTablesWritten := by
  intro s seq index value h
  refine ⟨fun hi => ?_, fun hi hop => ?_, fun k hk hop => ?_, fun hi => ?_, fun k hk hop => ?_, fun k hk hop => ?_⟩
  · exact hubCommand_loadTable h (loadGuard_reads _ _) rfl rfl (loadGuard_unnamed _ _ hi)
  · exact hubCommand_loadTable h (loadGuard_reads _ _) rfl rfl (loadGuard_outside _ _ hi (by simpa using hop))
  · intro lo hi given x g
    refine hubCommand_loadTable (t := { s with guard := g }) h (loadGuard_reads _ _) rfl rfl ?_
    refine (loadGuard_config _ _ hk (by simpa using hop)).trans ?_
    rw [entered_withGuard s g, entered_guard, okOr_ne, guardValue_eq, guardRanges_zip, clampEntry_zip]
    rfl
  · exact hubCommand_loadTable h (loadBalance_reads _ _) rfl rfl (entered_balance s _ _ ▸ loadBalance_unnamed _ _ hi)
  · exact hubCommand_loadTable h (loadBalance_reads _ _) rfl rfl
      (entered_balance s _ _ ▸ loadBalance_outside _ _ hk (by simpa using hop))
  · intro lo hi x b
    refine hubCommand_loadTable (t := { s with balance := b }) h (loadBalance_reads _ _) rfl rfl ?_
    refine (loadBalance_config _ _ hk (by simpa using hop)).trans ?_
    rw [entered_withBalance s b, entered_balance, okOr_ne, balanceRanges_zip, clampEntry_zip]
    rfl

/-- Settles O23, refusal by refusal, then the write. -/
theorem limitTableWritten : Obligations.LimitTableWritten := by
  intro s seq index value h marks
  have hmarks (k : HubCommand) : (s.entered seq k).guard.limitMarks = marks s.guard := by
    rw [entered_guard]
    rfl
  refine ⟨fun hi => ?_, fun hi hop => ?_, fun hi hop hl => ?_, fun k hk hop => ?_⟩
  · exact hubCommand_loadTable h (loadLimit_reads _ _) rfl rfl (hmarks _ ▸ loadLimit_unnamed _ _ hi)
  · exact hubCommand_loadTable h (loadLimit_reads _ _) rfl rfl (hmarks _ ▸ loadLimit_run _ _ hi (by simpa using hop))
  · exact hubCommand_loadTable h (loadLimit_reads _ _) rfl rfl
      (hmarks _ ▸ loadLimit_locked _ _ hi (by simpa using hop) (by simpa using hl))
  · intro lo hi given x g
    refine hubCommand_loadTable (t := { s with guard := g }) h (loadLimit_reads _ _) rfl rfl ?_
    refine (loadLimit_open _ _ hk (by simpa using hop)).trans ?_
    rw [entered_withGuard s g, entered_guard, okOr_ne, limitValue_eq, limitField_eq, limitRanges_zip, clampEntry_zip]
    rfl

end Sys2Proof.Tables
end

section
/-! SUPPORT. Charge current arithmetic: reading a table of points between two of them and outside, and what each stage of a
computation can give (R10, R89 to R99). -/

namespace Sys2Proof.ChargeCurrent

open Sys2Proof.Machine

/-! ## Scaling by a part of a whole -/

/-- A figure times a part of a whole, floored, lies between the figure and 0. -/
theorem scaled_between (d : Int) {a b : Int} (ha : 0 ≤ a) (hab : a ≤ b) (hb : 0 < b) :
    min d 0 ≤ d * a / b ∧ d * a / b ≤ max d 0 := by
  rw [Int.le_ediv_iff_mul_le hb]
  refine ⟨?_, Int.ediv_le_of_le_mul hb ?_⟩
  · rcases le_total d 0 with hd | hd
    · simpa [hd] using mul_le_mul_of_nonpos_left hab hd
    · simpa [hd] using mul_nonneg hd ha
  · rcases le_total d 0 with hd | hd
    · simpa [hd] using mul_nonpos_of_nonpos_of_nonneg hd ha
    · simpa [hd] using mul_le_mul_of_nonneg_left hab hd

/-! ## Interpolation (R10, R91) -/

theorem risesStrictly_iff (l : List Point) : risesStrictly l = true ↔ l.Pairwise fun p q => p.x < q.x := by
  rw [← List.isChain_iff_pairwise]
  fun_induction risesStrictly l with
  | case1 p q rest ih => simp [ih]
  | case2 l h =>
    match l with
    | [] => simp
    | [p] => simp
    | p :: q :: rest => exact absurd rfl (h p q rest)

theorem interpolate_atOrBelowFirst {p : Point} {x : Int} (rest : List Point) (h : x ≤ p.x) :
    interpolate (p :: rest) x = p.y := by
  cases rest with
  | nil => rfl
  | cons q rest => exact if_pos h

theorem interpolate_segment {p q : Point} {x : Int} (rest : List Point) (hp : p.x < x) (hq : x ≤ q.x) :
    interpolate (p :: q :: rest) x = p.y + (q.y - p.y) * (x - p.x) / (q.x - p.x) :=
  (if_neg (not_le.mpr hp)).trans (if_pos hq)

theorem interpolate_aboveSegment {p q : Point} {x : Int} (rest : List Point) (hpq : p.x < q.x) (hq : q.x < x) :
    interpolate (p :: q :: rest) x = interpolate (q :: rest) x :=
  (if_neg (by omega)).trans (if_neg (by omega))

/-- At or above the second point the first one is not read: at that point itself the line before it gives its y as well. -/
theorem interpolate_fromSecond {p q : Point} {x : Int} (rest : List Point) (hpq : p.x < q.x) (hq : q.x ≤ x) :
    interpolate (p :: q :: rest) x = interpolate (q :: rest) x := by
  rcases hq.lt_or_eq with hlt | rfl
  · exact interpolate_aboveSegment rest hpq hlt
  · rw [interpolate_segment rest hpq le_rfl, interpolate_atOrBelowFirst rest le_rfl,
      Int.mul_ediv_cancel _ (by omega)]
    omega

/-- At or above a point nothing before the point is read. -/
theorem interpolate_fromPoint {front rest : List Point} {p : Point} {x : Int}
    (hl : (front ++ p :: rest).Pairwise fun p q => p.x < q.x) (hx : p.x ≤ x) :
    interpolate (front ++ p :: rest) x = interpolate (p :: rest) x := by
  induction front with
  | nil => rfl
  | cons a front ih =>
    obtain ⟨ha, htail⟩ := List.pairwise_cons.mp hl
    rw [← ih htail]
    cases front with
    | nil => exact interpolate_fromSecond rest (ha p (by simp)) hx
    | cons b front =>
      have hb : b.x < p.x := (List.pairwise_cons.mp htail).1 p (by simp)
      exact interpolate_fromSecond _ (ha b (by simp)) (by omega)

/-- The line between two points stays between their y. -/
theorem segment_between {p q : Point} {x : Int} (hp : p.x < x) (hq : x ≤ q.x) :
    min p.y q.y ≤ p.y + (q.y - p.y) * (x - p.x) / (q.x - p.x)
      ∧ p.y + (q.y - p.y) * (x - p.x) / (q.x - p.x) ≤ max p.y q.y := by
  have h := scaled_between (q.y - p.y) (a := x - p.x) (b := q.x - p.x) (by omega) (by omega) (by omega)
  omega

/-- A table read anywhere stays within bounds that hold of every point's y. -/
theorem interpolate_within {lo hi x : Int} {l : List Point} (hne : l ≠ []) (hl : ∀ p ∈ l, lo ≤ p.y ∧ p.y ≤ hi) :
    lo ≤ interpolate l x ∧ interpolate l x ≤ hi := by
  fun_induction interpolate l x with
  | case1 => exact absurd rfl hne
  | case2 p => exact hl p (by simp)
  | case3 p q rest x hp => exact hl p (by simp)
  | case4 p q rest x hp hq =>
    have hbetween := segment_between (not_le.mp hp) hq
    have hpy := hl p (by simp)
    have hqy := hl q (by simp)
    omega
  | case5 p q rest x hp hq ih => exact ih (by simp) fun z hz => hl z (List.mem_cons_of_mem p hz)

/-! ## Rounding and the least term (R95) -/

theorem roundDown25_le (x : Int) : roundDown25 x ≤ x := Int.ediv_mul_le x (by decide)

theorem roundDown25_nonneg {x : Int} (h : 0 ≤ x) : 0 ≤ roundDown25 x :=
  mul_nonneg (Int.ediv_nonneg h (by decide)) (by decide)

theorem dvd_roundDown25 (x : Int) : (25 : Int) ∣ roundDown25 x := Int.dvd_mul_left _ _

theorem le_leastTerm_iff {x therm taper input hinge hard : Int} :
    x ≤ leastTerm therm taper input hinge hard ↔ x ≤ therm ∧ x ≤ taper ∧ x ≤ input ∧ x ≤ hinge ∧ x ≤ hard := by
  simp [leastTerm]

/-! ## The slew stage (R96) -/

theorem slewed_le_raw (raw ref slew : Int) : slewed raw ref slew ≤ raw := by
  unfold slewed
  split <;> simp

theorem slewed_le_step {raw ref slew : Int} (h : 0 ≤ slew) : slewed raw ref slew ≤ ref + slew := by
  have hstep := roundDown25_le slew
  unfold slewed
  split <;> omega

theorem slewed_nonneg {raw ref slew : Int} (hraw : 0 ≤ raw) (href : 0 ≤ ref) (hslew : 0 ≤ slew) :
    0 ≤ slewed raw ref slew := by
  have hstep := roundDown25_nonneg hslew
  unfold slewed
  split <;> omega

/-- The slew stage keeps to the 25 mA steps the figures stand on. -/
theorem dvd_slewed {raw ref : Int} (slew : Int) (hraw : (25 : Int) ∣ raw) (href : (25 : Int) ∣ ref) :
    (25 : Int) ∣ slewed raw ref slew := by
  have hstep := dvd_roundDown25 slew
  unfold slewed
  split
  · exact hraw
  · exact min_rec' _ hraw (Int.dvd_add href hstep)

/-! ## The input stage (R93, R94) -/

/-- P_chg, where there is a source, is what the supply gives less the system's power. -/
theorem budget_pChg (s : State) :
    s.budget.2.map (·.pChg)
      = (s.path.supply.map (·.2)).map fun x =>
          x.1 * x.2 / 1000 * s.guard.eff / 100 - s.cells.input.vsys * max s.cells.input.isys 0 / 1000 := by
  unfold State.budget
  cases s.path.supply <;> rfl

theorem budget_none {s : State} (h : s.path.present = false) : s.budget.2 = none := by
  simp [State.budget, PathUnit.supply, h]

theorem supplementOf_iff (b : Option Budget) : supplementOf b = true ↔ ∃ p, b.map (·.pChg) = some p ∧ p ≤ 0 := by
  cases b <;> simp [supplementOf]

theorem inputTerm_supplement {b : Option Budget} (h : supplementOf b = true) (vPack : Int) : inputTerm b vPack = 0 := by
  cases b with
  | none => rfl
  | some b => exact if_pos (by simpa [supplementOf] using h)

theorem inputTerm_nonneg (b : Option Budget) (vPack : Int) : 0 ≤ inputTerm b vPack := by
  cases b with
  | none => exact le_rfl
  | some b =>
    simp only [inputTerm]
    split
    · exact le_rfl
    · exact Int.ediv_nonneg (by omega) (by simp [Config.packFloor])

/-- Without a supply, or with the system taking all of it, the input term is 0. -/
theorem inputTerm_unfed {s : State} (h : s.path.present = false ∨ supplementOf s.budget.2 = true) (vPack : Int) :
    inputTerm s.budget.2 vPack = 0 := by
  rcases h with h | h
  · rw [budget_none h]
    rfl
  · exact inputTerm_supplement h vPack

/-! ## The gate and mode stages (R98, R99) -/

theorem gateOpen_iff (path : PathKind) (gate : Gate) (t d : Bool) :
    gateOpen path gate t d = true
      ↔ path = .adapter ∨ gate = .opened ∨ (gate = .untilT ∧ t = true) ∨ (gate = .untilD ∧ d = true) := by
  cases path <;> cases gate <;> simp [gateOpen]

/-- The mode is CHARGE exactly with a current above 0, where nothing is charged without a supply to spare. -/
theorem modeOf_charge_iff {present supplement : Bool} {i : Int} (h : present = false ∨ supplement = true → i ≤ 0) :
    modeOf present supplement i = .charge ↔ i > 0 := by
  cases present <;> cases supplement <;> simp_all [modeOf]

/-! ## A whole computation -/

/-- A computation is the full one of a hand-over with a summary, or a no-round one. -/
theorem compute_cases (s : State) :
    (∃ h r, s.compute = s.fullComputation h r) ∨ ∃ x, s.compute = s.noRoundComputation x := by
  unfold State.compute
  split
  · exact .inr ⟨_, rfl⟩
  · split
    · exact .inr ⟨_, rfl⟩
    · exact .inl ⟨_, _, rfl⟩

theorem compute_empty {s : State} (h : s.path.handOver = none) : s.compute = s.noRoundComputation none := by
  simp [State.compute, h]

theorem compute_noSummary {s : State} {h : HandOver} (hs : s.path.handOver = some h) (hr : h.summary = none) :
    s.compute = s.noRoundComputation (some h) := by
  simp [State.compute, hs, hr]

theorem compute_full {s : State} {h : HandOver} {r : Summary} (hs : s.path.handOver = some h) (hr : h.summary = some r) :
    s.compute = s.fullComputation h r := by
  simp [State.compute, hs, hr]

theorem compute_supplement (s : State) : s.compute.supplement = supplementOf s.budget.2 := by
  rcases compute_cases s with ⟨h, r, hk⟩ | ⟨x, hk⟩ <;> rw [hk] <;> rfl

theorem compute_mode (s : State) :
    s.compute.mode = modeOf s.path.present (supplementOf s.budget.2) s.compute.iSet := by
  rcases compute_cases s with ⟨h, r, hk⟩ | ⟨x, hk⟩ <;> rw [hk] <;> rfl

/-- The combine stage's figure: the least of the five terms, rounded down (R95). -/
def combined (s : State) (h : HandOver) (r : Summary) : Int :=
  roundDown25
    (leastTerm (thermalTerm h.limit (derateFactor s.path.derate r.hot)) (taperTerm h.limit h.ceiling h.band r.hi)
      (inputTerm s.budget.2 (r.v1 + r.v2)) s.guard.hingeImax s.guard.hardIchg)

/-- The slew stage's figure (R96). -/
def limited (s : State) (h : HandOver) (r : Summary) : Int := slewed (combined s h r) s.path.slewRef s.guard.slew

theorem fullComputation_iSet (s : State) (h : HandOver) (r : Summary) :
    (s.fullComputation h r).iSet = if gateOpen h.path h.gate h.t h.d then 0 else limited s h r := rfl

theorem fullComputation_slewLimited (s : State) (h : HandOver) (r : Summary) :
    (s.fullComputation h r).slewLimited = decide (limited s h r < combined s h r) := rfl

theorem fullComputation_gated (s : State) (h : HandOver) (r : Summary) :
    (s.fullComputation h r).gated = (gateOpen h.path h.gate h.t h.d && decide (limited s h r > 0)) := rfl

/-- The slew stage's figure is at most each term of the combine stage. -/
theorem limited_le {s : State} {h : HandOver} {r : Summary} :
    limited s h r ≤ inputTerm s.budget.2 (r.v1 + r.v2) ∧ limited s h r ≤ s.guard.hingeImax
      ∧ limited s h r ≤ s.guard.hardIchg := by
  have hleast := ((slewed_le_raw _ s.path.slewRef s.guard.slew).trans (roundDown25_le _) :
    limited s h r ≤ leastTerm _ _ _ _ _)
  obtain ⟨-, -, hinput, hhinge, hhard⟩ := le_leastTerm_iff.mp hleast
  exact ⟨hinput, hhinge, hhard⟩

/-- From terms and a slew reference of 0 or more the slew stage's figure is 0 or more. -/
theorem limited_nonneg {s : State} {h : HandOver} {r : Summary}
    (htherm : 0 ≤ thermalTerm h.limit (derateFactor s.path.derate r.hot))
    (htaper : 0 ≤ taperTerm h.limit h.ceiling h.band r.hi) (hhinge : 0 ≤ s.guard.hingeImax)
    (hhard : 0 ≤ s.guard.hardIchg) (href : 0 ≤ s.path.slewRef) (hslew : 0 ≤ s.guard.slew) : 0 ≤ limited s h r :=
  slewed_nonneg
    (roundDown25_nonneg (le_leastTerm_iff.mpr ⟨htherm, htaper, inputTerm_nonneg _ _, hhinge, hhard⟩)) href hslew

theorem dvd_limited {s : State} (h : HandOver) (r : Summary) (href : (25 : Int) ∣ s.path.slewRef) :
    (25 : Int) ∣ limited s h r :=
  dvd_slewed _ (dvd_roundDown25 _) href

/-- A property that 0 and the slew stage's figure have, the charge current has: the gate chooses between the two (R98). -/
theorem fullComputation_iSet_of {s : State} {h : HandOver} {r : Summary} {P : Int → Prop} (hzero : P 0)
    (hslew : P (limited s h r)) : P (s.fullComputation h r).iSet := by
  rw [fullComputation_iSet]
  split
  · exact hzero
  · exact hslew

/-- From figures of 0 or more the charge current is 0 or more and within both limits and one slew step (R95, R96, R98). -/
theorem fullComputation_within {s : State} {h : HandOver} {r : Summary}
    (htherm : 0 ≤ thermalTerm h.limit (derateFactor s.path.derate r.hot))
    (htaper : 0 ≤ taperTerm h.limit h.ceiling h.band r.hi) (hhinge : 0 ≤ s.guard.hingeImax)
    (hhard : 0 ≤ s.guard.hardIchg) (href : 0 ≤ s.path.slewRef) (hslew : 0 ≤ s.guard.slew) :
    let i := (s.fullComputation h r).iSet
    0 ≤ i ∧ i ≤ s.guard.hardIchg ∧ i ≤ s.guard.hingeImax ∧ i ≤ s.path.slewRef + s.guard.slew := by
  obtain ⟨-, hwithinHinge, hwithinHard⟩ := limited_le (s := s) (h := h) (r := r)
  exact fullComputation_iSet_of
    (P := fun i => 0 ≤ i ∧ i ≤ s.guard.hardIchg ∧ i ≤ s.guard.hingeImax ∧ i ≤ s.path.slewRef + s.guard.slew)
    ⟨le_rfl, hhard, hhinge, by omega⟩
    ⟨limited_nonneg htherm htaper hhinge hhard href hslew, hwithinHard, hwithinHinge, slewed_le_step hslew⟩

/-- Without a supply to spare no current is asked for. -/
theorem compute_unfed {s : State} (h : s.path.present = false ∨ supplementOf s.budget.2 = true) :
    s.compute.iSet ≤ 0 := by
  rcases compute_cases s with ⟨x, r, hk⟩ | ⟨x, hk⟩
  · rw [hk]
    exact fullComputation_iSet_of (P := (· ≤ 0)) le_rfl (limited_le.1.trans_eq (inputTerm_unfed h _))
  · rw [hk]
    exact le_rfl

/-! ## The obligations -/

/-- Settles O56: the points before the one read at are skipped one by one, and the figures stay between two points' y. -/
theorem interpolationReads : Obligations.InterpolationReads := by
  refine ⟨fun l x hl => ⟨?_, ?_, ?_⟩, fun s h r _ => ⟨_, rfl, rfl, rfl, fun hpoints => ?_⟩⟩
  · rintro p rest rfl hx
    exact interpolate_atOrBelowFirst rest hx
  · rintro front p rfl hx
    exact interpolate_fromPoint ((risesStrictly_iff _).mp hl) hx
  · rintro front p q rest rfl hp hq
    exact (interpolate_fromPoint ((risesStrictly_iff _).mp hl) hp.le).trans (interpolate_segment rest hp hq)
  · obtain ⟨hzero, hwhole⟩ :=
      interpolate_within (x := r.hot) (List.ne_nil_of_length_pos (by simp)) hpoints
    refine ⟨hzero, hwhole, fun hlimit => ?_⟩
    have htherm := scaled_between h.limit hzero hwhole (by decide)
    rwa [min_eq_right hlimit, max_eq_left hlimit] at htherm

/-- Settles O55: the mode from the budget and the current, then the three hand-over records. -/
theorem computationBounded : Obligations.ComputationBounded := by
  intro s k i supply charging supplement ref
  have hsupply : supply = s.path.supply.map (·.2) := by
    unfold supply PathUnit.supply
    cases s.path.present <;> cases s.path.acceptedOffer <;> rfl
  have hcharging : charging = s.budget.2.map (·.pChg) := by
    rw [budget_pChg, ← hsupply]
  have hsupplement : supplementOf s.budget.2 = true ↔ supplement := by
    rw [supplementOf_iff, ← hcharging]
  have href : ref = s.path.slewRef := by
    unfold ref PathUnit.slewRef
    cases s.path.lastSetpoint <;> rfl
  have hmode : k.mode = modeOf s.path.present (supplementOf s.budget.2) i := compute_mode s
  refine ⟨fun hp => ?_, fun hp hs => ?_, fun hp hs hi => ?_, fun hp hs hi => ?_, ?_, ?_, fun hn => ?_, fun h hh hn => ?_,
    fun h r hh hr => ?_⟩
  · simp [hmode, modeOf, hp]
  · simp [hmode, modeOf, hp, hsupplement.mpr hs]
  · simp [hmode, modeOf, hp, hsupplement, hs, hi]
  · simp [hmode, modeOf, hp, hsupplement, hs, hi]
  · rw [hmode]
    exact modeOf_charge_iff compute_unfed
  · exact (compute_supplement s).symm ▸ hsupplement
  · unfold i k
    rw [compute_empty hn]
    exact ⟨rfl, rfl, rfl, rfl⟩
  · unfold i k
    rw [compute_noSummary hh hn]
    exact ⟨rfl, rfl, rfl, rfl⟩
  · intro factor therm vHi taper input least raw slewed gateOpens
    have hk : k = s.fullComputation h r := compute_full hh hr
    have hinput : input = inputTerm s.budget.2 (r.v1 + r.v2) := by
      unfold input
      rw [hcharging]
      cases s.budget.2 <;> rfl
    have hraw : raw = combined s h r := by
      unfold raw least
      rw [hinput]
      rfl
    have hslewed : slewed = limited s h r := by
      unfold slewed
      rw [hraw, href]
      rfl
    have hgate : gateOpen h.path h.gate h.t h.d = true ↔ gateOpens := gateOpen_iff ..
    have hi : i = if gateOpens then 0 else slewed := by
      unfold i
      rw [hk, fullComputation_iSet, hslewed]
      simp only [hgate]
    refine ⟨fun hg => hi.trans (if_pos hg), fun hg => hi.trans (if_neg hg), ?_, ?_, ?_, congrArg (·.noRound) hk,
      congrArg (·.addr) hk, congrArg (·.column) hk, ?_, ?_⟩
    · rw [hk]
      exact ⟨_, rfl, rfl, rfl, rfl, hinput.symm, hraw.symm⟩
    · rw [hk, fullComputation_slewLimited, hslewed, hraw, decide_eq_true_iff]
    · rw [hk, fullComputation_gated, hslewed, Bool.and_eq_true, decide_eq_true_iff, hgate]
    · intro htherm htaper hhinge hhard href0 hslew
      unfold i
      rw [hk, href]
      exact fullComputation_within htherm htaper hhinge hhard (href ▸ href0) hslew
    · intro hdvd
      unfold i
      rw [hk]
      exact fullComputation_iSet_of (Int.dvd_zero 25) (dvd_limited h r (href ▸ hdvd))

end Sys2Proof.ChargeCurrent
end

section
/-! SUPPORT. GATE and the next-setpoint slot across a step: each operation of the hub leaves the transport as it was, or calls
for a setpoint, which leaves the slot one of the state in force (R107, R108, R113 to R119). -/

namespace Sys2Proof.PowerPath

open Sys2Proof.Machine Sys2Proof.Sequencing

/-! ## What the laws of GATE and of the slot rest on -/

/-- GATE and the slot as every step keeps them (R108, R115). -/
def Orderly (s : State) : Prop := s.gateLaw ∧ s.slotLaw

/-- What a setpoint called for needs to leave an orderly hub, whatever state the slot's setpoint was composed in. -/
def Callable (s : State) : Prop := s.gateLaw ∧ (s.path.slot.isSome → s.reserved (.node .s4) = true)

/-- `t` stands to GATE, the operating state, the setpoints and the node entries as `s` does. -/
structure SameTransport (s t : State) : Prop where
  gate : t.gate = s.gate
  op : t.op = s.op
  last : t.path.lastSetpoint = s.path.lastSetpoint
  slot : t.path.slot = s.path.slot
  nodes : t.cmd.nodes = s.cmd.nodes

/-- A setpoint that may be called for in an operating state (R107). -/
def Fits (p : Setpoint) (op : OpState) : Prop :=
  p.composedIn = op ∧ (op ≠ .run → p.charge = 0 ∧ p.dir = .off ∧ p.current = 0)

theorem SameTransport.orderly {s t : State} (h : SameTransport s t) (hs : Orderly s) : Orderly t := by
  simpa only [Orderly, State.gateLaw, State.slotLaw, State.reserved, h.gate, h.op, h.last, h.slot, h.nodes] using hs

theorem SameTransport.callable {s t : State} (h : SameTransport s t) (hs : Callable s) : Callable t := by
  simpa only [Callable, State.gateLaw, State.reserved, h.gate, h.op, h.last, h.slot, h.nodes] using hs

theorem SameTransport.trans {s t u : State} (h : SameTransport s t) (h' : SameTransport t u) : SameTransport s u :=
  ⟨h'.gate.trans h.gate, h'.op.trans h.op, h'.last.trans h.last, h'.slot.trans h.slot, h'.nodes.trans h.nodes⟩

theorem Orderly.callable {s : State} (h : Orderly s) : Callable s := by
  refine ⟨h.1, fun hs => ?_⟩
  obtain ⟨p, hp⟩ := Option.isSome_iff_exists.mp hs
  exact (h.2 p hp).2.1

/-- A low GATE can be called with, in whatever operating state. -/
theorem callable_low {s : State} (hg : s.gate = false) (hs : s.path.slot.isSome → s.reserved (.node .s4) = true) :
    Callable s :=
  ⟨fun h => absurd h (by simp [hg]), hs⟩

/-- Outside RUN GATE is low (R108). -/
theorem Orderly.low {s : State} (h : Orderly s) (hop : s.op ≠ .run) : s.gate = false := by
  by_contra hg
  exact hop (h.1 (by simpa using hg)).1

/-- Node entries may change, where NODE4 stays held behind a filled slot. -/
theorem orderly_of_nodes {s t : State} (hg : t.gate = s.gate) (hop : t.op = s.op)
    (hl : t.path.lastSetpoint = s.path.lastSetpoint) (hslot : t.path.slot = s.path.slot)
    (hn : s.path.slot.isSome → s.reserved (.node .s4) = true → t.reserved (.node .s4) = true) (h : Orderly s) :
    Orderly t := by
  obtain ⟨hgate, hs⟩ := h
  refine ⟨by simpa only [State.gateLaw, hg, hop, hl] using hgate, fun p hp => ?_⟩
  rw [hslot] at hp
  obtain ⟨hc, hr, hz⟩ := hs p hp
  rw [hop]
  exact ⟨hc, hn (Option.isSome_iff_exists.mpr ⟨p, hp⟩) hr, hz⟩

/-! ## Setpoints called for -/

/-- A SETPOINT sent with the slot empty (R108, R115). -/
theorem orderly_sendSetpoint {s : State} (p : Setpoint) (h : s.path.slot = none) : Orderly (s.sendSetpoint p) := by
  refine ⟨fun hg => ?_, fun q hq => ?_⟩
  · obtain ⟨⟨hop, hmode⟩, hcharge⟩ : (s.op = .run ∧ p.mode = .charge) ∧ p.charge > 0 := by
      simpa [State.sendSetpoint] using hg
    exact ⟨by simpa using hop, ⟨p, s.link.seqD⟩, rfl, hmode, hcharge⟩
  · simp [h] at hq

/-- A setpoint handed to the transport is sent or replaces the slot's (R115). -/
theorem orderly_transport {s : State} {p : Setpoint} (h : Callable s) (hp : Fits p s.op) : Orderly (s.transport p) := by
  unfold State.transport
  split
  case isTrue hr =>
    refine ⟨h.1, fun q hq => ?_⟩
    obtain rfl : p = q := by simpa using hq
    exact ⟨hp.1, hr, hp.2⟩
  case isFalse hr =>
    refine orderly_sendSetpoint p ?_
    cases hs : s.path.slot with
    | none => rfl
    | some q => exact absurd (h.2 (by simp [hs])) hr

theorem fits_idle {s : State} : Fits s.idleSetpoint s.op := ⟨rfl, fun _ => ⟨rfl, rfl, rfl⟩⟩

theorem fits_run {s : State} (k : Computation) (h : s.op = .run) : Fits (s.runSetpoint k) s.op :=
  ⟨h.symm, fun hn => absurd h hn⟩

/-- A setpoint called for leaves the slot one of the state in force, whatever it held (R101, R107, R113). -/
theorem orderly_callSetpoint {s : State} (h : Callable s) : Orderly s.callSetpoint := by
  unfold State.callSetpoint
  split
  case isTrue hop => exact orderly_transport h (fits_run _ hop)
  case isFalse => exact orderly_transport h fits_idle

/-! ## Node entries taken and released -/

theorem reserved_set (s : State) (n : NodeId) (e : NodeEntry) :
    State.reserved { s with cmd.nodes := s.cmd.nodes.set n e } (.node .s4)
      = if n = .s4 then decide (e ≠ .empty) else s.reserved (.node .s4) := by
  cases n <;> rfl

theorem orderly_forwardCommand {s : State} (c : HeldCommand) (n : NodeId) (h : Orderly s) :
    Orderly (s.forwardCommand c n) := by
  refine orderly_of_nodes (by simp) (by simp) (by simp) (by simp) (fun _ hr => ?_) h
  unfold State.forwardCommand
  rw [reserved_set]
  split
  · rfl
  · simpa [State.reserved] using hr

theorem orderly_forwardHead {s : State} (n : NodeId) (h : Orderly s) : Orderly (s.forwardHead n) := by
  unfold State.forwardHead
  split
  · exact h
  · split
    · exact orderly_forwardCommand _ _ h
    · exact h

/-- A node's release: NODE4 goes to the slot's setpoint, if one waits (R116, R119). -/
theorem orderly_releaseNode {s : State} (n : NodeId) (h : Orderly s) : Orderly (s.releaseNode n) := by
  unfold State.releaseNode
  dsimp only
  split
  · exact orderly_sendSetpoint _ rfl
  · rename_i n hs
    refine orderly_forwardHead _ (orderly_of_nodes (s := s) rfl rfl rfl rfl (fun hslot hr => ?_) h)
    rw [reserved_set, if_neg]
    · exact hr
    · rintro rfl
      obtain ⟨p, hp⟩ := Option.isSome_iff_exists.mp hslot
      exact hs p rfl hp

/-! ## Leaving RUN and entering it -/

/-- The entry into HELD (R108, R143, R144). -/
theorem orderly_enterHeld {s : State} (c : HoldCause) (b : Bool) (h : Callable s) : Orderly (s.enterHeld c b) := by
  obtain ⟨hop, hgate, hpath, hnodes, -⟩ := released_frame s c b
  have hcall : Callable (released s c b) :=
    callable_low hgate fun hs => by
      simpa only [State.reserved, hnodes] using h.2 (by simpa [hpath] using hs)
  rw [enterHeld_eq]
  exact SameTransport.orderly (by constructor <;> simp) (orderly_callSetpoint hcall)

theorem orderly_handCause {s : State} (c : HoldCause) (h : Orderly s) : Orderly (s.handCause c) := by
  unfold State.handCause
  split
  · exact h
  · exact orderly_enterHeld c false h.callable
  · split <;> exact h

/-- The move to CONFIG (R108, R189). -/
theorem orderly_leaveForConfig {s : State} (h : Callable s) : Orderly s.leaveForConfig := by
  obtain ⟨hop, hgate, hpath, hnodes, -⟩ := leaving_blocks s
  refine orderly_callSetpoint (s := leaving s) (callable_low hgate fun hs => ?_)
  simpa only [State.reserved, hnodes] using h.2 (by rw [hpath] at hs; exact hs)

/-- A hand-over in RUN (R52). -/
theorem orderly_handOver {s : State} (r : Summary) (a : StepAddr) (e : StepEntry) (h : Callable s) (hop : s.op = .run) :
    Orderly (s.handOver r a e) := by
  unfold State.handOver
  dsimp only
  refine orderly_transport (SameTransport.callable ?_ h) (fits_run _ (by simpa using hop))
  constructor <;> simp

/-- An evaluation on the last round in RUN calls for a setpoint, or leaves the transport as it was (R53). -/
theorem evaluateLast_orderly {s : State} (h : Callable s) (hop : s.op = .run) :
    Orderly s.evaluateLast.1 ∨ (s.evaluateLast.2 = false ∧ SameTransport s s.evaluateLast.1) := by
  unfold State.evaluateLast
  dsimp only
  split
  · exact .inr ⟨rfl, by constructor <;> simp⟩
  · refine .inl ?_
    rw [handCause_run _ (by simpa using hop)]
    exact orderly_enterHeld _ _ (SameTransport.callable (by constructor <;> simp) h)
  · split
    · exact .inl (orderly_handOver _ _ _ (SameTransport.callable (by constructor <;> simp) h) (by simpa using hop))
    · exact .inr ⟨rfl, by constructor <;> simp⟩

/-- Entering RUN always calls for a setpoint (R151, R187). -/
theorem orderly_evaluateEntry {s : State} (h : Callable s) (hop : s.op = .run) : Orderly s.evaluateEntry.1 := by
  unfold State.evaluateEntry
  dsimp only
  obtain ho | ⟨hflag, hsame⟩ := evaluateLast_orderly h hop
  · split
    · exact ho
    · split
      · exact orderly_callSetpoint ho.callable
      · exact ho
  · rw [hflag, if_neg (by simp), if_pos (hsame.op.trans hop)]
    exact orderly_callSetpoint (hsame.callable h)

theorem orderly_eventCause {s : State} (c : EventCause) (h : Orderly s) : Orderly (s.eventCause c) := by
  unfold State.eventCause
  dsimp only
  split
  · exact h
  · have hc := SameTransport.orderly (t := s.changeCauses c.source (s.guard.causes.addEvent c) none)
      (by constructor <;> simp) h
    split
    case isTrue hop =>
      obtain ho | ⟨-, hsame⟩ := evaluateLast_orderly hc.callable hop
      · exact ho
      · exact hsame.orderly hc
    case isFalse => exact hc

/-! ## Rounds -/

theorem orderly_afterStage2 {s : State} (r : Summary) (b : Option Entered) (h : Orderly s) (hop : s.op = .run) :
    Orderly (s.afterStage2 r b) := by
  have hframe := State.stageStep_frame s r
  unfold State.afterStage2
  revert hframe
  cases s.stageStep r with
  | blocked s3 target =>
    intro hf
    rw [StepOutcome.state_blocked] at hf
    exact orderly_handCause _ (SameTransport.orderly (by constructor <;> simp [hf]) h)
  | ok s3 x =>
    intro hf
    rw [StepOutcome.state_ok] at hf
    have hs : SameTransport s s3 := by constructor <;> simp [hf]
    dsimp only
    split
    · exact hs.orderly h
    · exact orderly_handCause _ (hs.orderly h)
    · refine orderly_handOver _ _ _ (SameTransport.callable ?_ h.callable) (by simpa [hf] using hop)
      constructor <;> simp [hf]

theorem orderly_roundEvaluation {s : State} (r : Summary) (h : Orderly s) (hop : s.op = .run) :
    Orderly (s.roundEvaluation r) := by
  rw [State.roundEvaluation_eq]
  exact orderly_afterStage2 r _ (SameTransport.orderly (by constructor <;> simp) h) (by simpa using hop)

theorem orderly_completeRound {s : State} (k l : Contribution) (h : Orderly s) : Orderly (s.completeRound k l) := by
  unfold State.completeRound
  dsimp only
  split
  case isTrue hop => exact orderly_roundEvaluation _ h hop
  case isFalse => exact h

theorem orderly_contribute {s : State} (c : CellId) (k : Contribution) (h : Orderly s) :
    Orderly (s.contribute c k) := by
  unfold State.contribute
  dsimp only
  split
  · exact orderly_completeRound _ _ h
  · exact h

/-! ## Frames from the nodes -/

theorem orderly_breach {s : State} (c : CellId) (q : Byte) (p : Bool) (b : HoldKind × Int) (h : Orderly s) :
    Orderly (s.breach c q p b) := by
  unfold State.breach
  split
  · exact h
  · exact orderly_handCause _ h

theorem orderly_breaches {s : State} (c : CellId) (q : Byte) (p : Bool) (l : List (HoldKind × Int)) (h : Orderly s) :
    Orderly (l.foldl (fun t b => t.breach c q p b) s) := by
  induction l generalizing s with
  | nil => exact h
  | cons b l ih => exact ih (orderly_breach c q p b h)

/-- A sample's charge counted on an ACTIVE shuttle (R130). -/
def counted (s : State) (q : Nat) : State :=
  { s with
    balance.shuttle :=
      { s.balance.shuttle with
        transferred := s.balance.shuttle.transferred + q, remaining := s.balance.shuttle.remaining - q } }

/-- A sample of a cell that is not the source of an ACTIVE shuttle does not count (R130). -/
theorem countShuttle_other {s : State} {c : CellId} (n : Nat) (b : Int)
    (h : s.balance.shuttle.active = false ∨ s.balance.shuttle.source ≠ some c) : s.countShuttle c n b = s := by
  unfold State.countShuttle
  dsimp only
  rw [if_neg]
  rintro ⟨ha, hs⟩
  obtain h | h := h
  · simp [ha] at h
  · exact h hs

/-- A sample of the source cell counts, and ends the shuttle where nothing remains (R130, R133). -/
theorem countShuttle_source {s : State} {c : CellId} (n : Nat) (b : Int) (ha : s.balance.shuttle.active = true)
    (hs : s.balance.shuttle.source = some c) :
    s.countShuttle c n b
      = if (counted s (sampleCharge b n)).balance.shuttle.remaining ≤ 0 then
          if s.op = .run then ((counted s (sampleCharge b n)).endShuttle .done).callSetpoint
          else (counted s (sampleCharge b n)).endShuttle .done
        else counted s (sampleCharge b n) := by
  unfold State.countShuttle
  dsimp only
  rw [if_pos ⟨ha, hs⟩]
  simp only [State.endShuttle_frame]
  rfl

/-- The end of a shuttle, with a setpoint called for in RUN (R113). -/
theorem orderly_endShuttle {s : State} (why : EndReason) (h : Orderly s) :
    Orderly (if s.op = .run then (s.endShuttle why).callSetpoint else s.endShuttle why) := by
  have he : Orderly (s.endShuttle why) := SameTransport.orderly (by constructor <;> simp) h
  split
  · exact orderly_callSetpoint he.callable
  · exact he

theorem orderly_countShuttle {s : State} (c : CellId) (n : Nat) (b : Int) (h : Orderly s) :
    Orderly (s.countShuttle c n b) := by
  by_cases hc : s.balance.shuttle.active = true ∧ s.balance.shuttle.source = some c
  · rw [countShuttle_source n b hc.1 hc.2]
    split
    · exact orderly_endShuttle (s := counted s (sampleCharge b n)) .done h
    · exact h
  · rw [countShuttle_other n b (by simpa [imp_iff_not_or] using hc)]
    exact h

theorem orderly_compareBleed {s : State} (c : CellId) (b : Bool) (h : Orderly s) : Orderly (s.compareBleed c b) :=
  SameTransport.orderly (by constructor <;> simp) h

theorem orderly_takeSample {s : State} (c : CellId) (f : SampleFrame) (p : Bool) (h : Orderly s) :
    Orderly (s.takeSample c f p) := by
  unfold State.takeSample
  dsimp only
  split
  · exact h
  · have hcount := orderly_countShuttle c (clampInterval f.interval) f.balance.toInt
      (orderly_breaches (s := s.setCell c ((s.cell c).takeSample s.cells c f s.guard.staleMs)) c f.seq p
        (GuardUnit.breaches s.guard (sampleMillivolts f) (sampleTenths f)) h)
    have hcompare := orderly_compareBleed c (sampleBleeding f) hcount
    split
    · exact orderly_contribute _ _ hcompare
    · exact hcompare

theorem orderly_judgePresence {s : State} (h : Orderly s) : Orderly s.judgePresence := by
  unfold State.judgePresence
  dsimp only
  split
  · exact h
  · split <;> exact orderly_callSetpoint h.callable

theorem orderly_takeInput {s : State} (f : InputFrame) (h : Orderly s) : Orderly (s.takeInput f) := by
  unfold State.takeInput
  split
  · exact h
  · exact orderly_judgePresence h

theorem orderly_takeStage {s : State} (f : StageFrame) (p : Bool) (h : Orderly s) : Orderly (s.takeStage f p) := by
  have hreport : Orderly (s.enterReport f (s.reportAnswers f)) := by
    unfold State.enterReport
    dsimp only
    split
    · exact orderly_releaseNode .s4 h
    · exact h
  unfold State.takeStage
  dsimp only
  split
  · exact hreport
  · exact orderly_handCause _ hreport

theorem orderly_takeNodeReply {s : State} (n : NodeId) (d : Address) (q : Byte) (l : List Byte) (h : Orderly s) :
    Orderly (s.takeNodeReply n d q l) := by
  unfold State.takeNodeReply
  split
  · exact orderly_releaseNode n h
  · exact h

/-! ## Frames at the route unit -/

theorem orderly_goodFrameD {s : State} (h : Orderly s) : Orderly s.goodFrameD :=
  SameTransport.orderly (by constructor <;> simp) h

theorem orderly_badFrameD {s : State} (h : Orderly s) : Orderly s.badFrameD := by
  unfold State.badFrameD
  dsimp only
  split
  · exact orderly_eventCause .link h
  · exact h

theorem orderly_forwardPlain {s : State} (p : Pass) (f : Frame) (h : Orderly s) : Orderly (s.forwardPlain p f) :=
  SameTransport.orderly (by constructor <;> simp) h

theorem orderly_routeSample {s : State} (c : CellId) (f : SampleFrame) (h : Orderly s) :
    Orderly (s.routeSample c f) := by
  have hd : Orderly (s.routeDecision (sampleRoute c)).2 := h
  unfold State.routeSample State.forwardSample
  dsimp only
  have ht : Orderly (if s.routes[sampleRoute c].use then
      (s.routeDecision (sampleRoute c)).2.takeSample c f ((s.routeDecision (sampleRoute c)).1 ≠ .off)
      else (s.routeDecision (sampleRoute c)).2) := by
    split
    · exact orderly_takeSample c f _ hd
    · exact hd
  split
  · exact SameTransport.orderly (by constructor <;> simp) ht
  · exact orderly_forwardPlain _ _ ht

theorem orderly_routeInput {s : State} (f : InputFrame) (h : Orderly s) : Orderly (s.routeInput f) := by
  unfold State.routeInput
  dsimp only
  refine orderly_forwardPlain _ _ ?_
  split
  · exact orderly_takeInput f h
  · exact h

theorem orderly_routeStage {s : State} (f : StageFrame) (h : Orderly s) : Orderly (s.routeStage f) := by
  unfold State.routeStage
  dsimp only
  refine orderly_forwardPlain _ _ ?_
  split
  · exact orderly_takeStage f _ h
  · exact h

/-! ## Timers -/

theorem orderly_expireStaleness {s : State} (x : TimedRecord) (h : Orderly s) : Orderly (s.expireStaleness x) := by
  cases x with
  | cell c =>
    unfold State.expireStaleness
    dsimp only
    split
    · exact orderly_eventCause _ h
    · exact h
  | input =>
    unfold State.expireStaleness
    dsimp only
    split
    · exact orderly_judgePresence h
    · exact h

theorem orderly_expireDwell {s : State} (h : Orderly s) : Orderly s.expireDwell := by
  unfold State.expireDwell
  dsimp only
  split
  · split
    · split
      · exact orderly_callSetpoint h.callable
      · exact h
    · exact h
  · exact h

theorem orderly_expireNode {s : State} (n : NodeId) (h : Orderly s) : Orderly (s.expireNode n) := by
  unfold State.expireNode
  split
  · exact orderly_releaseNode n h
  · exact h

/-- In RUN the slot is emptied before NODE4 is released (R117). -/
theorem orderly_expireAnswer {s : State} (h : Orderly s) : Orderly s.expireAnswer := by
  unfold State.expireAnswer
  dsimp only
  split
  · split
    · have hempty : Orderly { s with path.silent := bump s.path.silent, path.overdue := true, path.slot := none } :=
        ⟨h.1, fun p hp => absurd hp (by simp)⟩
      exact orderly_handCause _ (orderly_releaseNode .s4 hempty)
    · exact orderly_handCause _ (orderly_releaseNode .s4 h)
  · exact h

theorem orderly_expireTimeLimit {s : State} (h : Orderly s) : Orderly s.expireTimeLimit := by
  unfold State.expireTimeLimit
  dsimp only
  split
  · exact orderly_endShuttle (s := { s with balance.shuttle.elapsed := s.balance.shuttle.length }) .timeout h
  · exact h

theorem orderly_expireWait {s : State} (h : Orderly s) : Orderly s.expireWait :=
  SameTransport.orderly (by constructor <;> simp) h

theorem orderly_expireRest {s : State} (c : CellId) (h : Orderly s) : Orderly (s.expireRest c) :=
  SameTransport.orderly (by constructor <;> simp) h

theorem orderly_sentU {s : State} (h : Orderly s) : Orderly s.sentU :=
  SameTransport.orderly (by constructor <;> simp) h

theorem orderly_sentD {s : State} (h : Orderly s) : Orderly s.sentD :=
  SameTransport.orderly (by constructor <;> simp) h

theorem orderly_tick {s : State} (h : Orderly s) : Orderly s.tick := by
  refine orderly_of_nodes (s := s) rfl rfl rfl rfl (fun _ hr => ?_) h
  revert hr
  show decide (s.cmd.nodes.s4 ≠ .empty) = true → decide (s.cmd.nodes.s4.tick ≠ .empty) = true
  cases s.cmd.nodes.s4 <;> simp [NodeEntry.tick]

/-! ## Commands to the hub -/

theorem sameTransport_answer (s : State) (c : HeldCommand) (status : Status) (results : List Field) :
    SameTransport s (s.answer c status results) := by constructor <;> simp

theorem orderly_answer {s : State} (c : HeldCommand) (status : Status) (results : List Field) (h : Orderly s) :
    Orderly (s.answer c status results) := (sameTransport_answer s c status results).orderly h

/-- LOAD_STEP, CLEAR_STEP, READ_STEP, SWAP and GOTO leave the transport. -/
theorem sameTransport_steps (s : State) (c : HeldCommand) :
    (∀ bank row col e, SameTransport s (s.loadStep c bank row col e))
      ∧ (∀ bank row col, SameTransport s (s.clearEntry c bank row col))
      ∧ (∀ bank, SameTransport s (s.clearBank c bank)) ∧ (∀ bank row col, SameTransport s (s.readStep c bank row col))
      ∧ (∀ bank target, SameTransport s (s.takeSwap c bank target))
      ∧ ∀ row col, SameTransport s (s.takeGoto c row col) := by
  unfold State.loadStep State.clearEntry State.clearBank State.readStep State.takeSwap State.takeGoto
  and_intros <;> intros <;> constructor <;> (repeat' split) <;> simp [State.setEntry]

/-- LOAD_TABLE leaves the transport, whatever the table. -/
theorem sameTransport_loadTable (s : State) (c : HeldCommand) :
    (∀ i v, SameTransport s (s.loadCell c i v)) ∧ (∀ i v w, SameTransport s (s.loadOcv c i v w))
      ∧ (∀ i v w, SameTransport s (s.loadDerate c i v w)) ∧ (∀ i v, SameTransport s (s.loadGuard c i v))
      ∧ (∀ i v, SameTransport s (s.loadLimit c i v)) ∧ (∀ i v, SameTransport s (s.loadBalance c i v))
      ∧ ∀ i v, SameTransport s (s.loadRoute c i v) := by
  unfold State.loadCell State.loadOcv State.loadDerate State.loadGuard State.loadLimit State.loadBalance State.loadRoute
  and_intros <;> intros <;> constructor <;> (repeat' split) <;> simp

/-- READ_TABLE and QUERY leave the transport. -/
theorem sameTransport_reads (s : State) (c : HeldCommand) :
    (∀ table i, SameTransport s (s.readTableAt c table i)) ∧ ∀ x y z, SameTransport s (s.takeQuery c x y z) := by
  unfold State.readTableAt State.readCell State.readOcv State.readDerate State.readGuard State.readLimit State.readBalance
    State.readRoute State.takeQuery
  dsimp only
  and_intros <;> intros <;> constructor <;> (repeat' split) <;> simp

/-- OFFER, ACCEPT and WITHDRAW call for no setpoint (R109 to R111). -/
theorem sameTransport_offers (s : State) (c : HeldCommand) :
    (∀ v i cls, SameTransport s (s.takeOffer c v i cls)) ∧ SameTransport s (s.takeAccept c)
      ∧ SameTransport s (s.takeWithdraw c) := by
  unfold State.takeOffer State.takeAccept State.takeWithdraw
  and_intros <;> intros <;> constructor <;> (repeat' split) <;> simp

/-- LOCK, SET_CHARGE and BALANCE BLEED leave the transport. -/
theorem sameTransport_settings (s : State) (c : HeldCommand) :
    SameTransport s (s.takeLock c) ∧ (∀ cell content, SameTransport s (s.takeSetCharge c cell content))
      ∧ ∀ cell setting, SameTransport s (s.takeBleed c cell setting) := by
  unfold State.takeLock State.takeSetCharge State.takeBleed
  and_intros <;> intros <;> constructor <;> (repeat' split) <;> simp

theorem sameTransport_startSteps (s : State) (a : StepAddr) :
    SameTransport { s with op := .run } (s.startSteps a) := by
  rw [startSteps_eq]
  constructor <;> simp [started]

/-- START enters RUN from a low GATE (R108, R187). -/
theorem orderly_takeStart {s : State} (c : HeldCommand) (bank row col : Byte) (h : Orderly s) :
    Orderly (s.takeStart c bank row col) := by
  unfold State.takeStart
  dsimp only
  split
  · exact orderly_answer _ _ _ h
  · rename_i hop
    have hconfig : s.op = .config := not_not.mp hop
    split
    · exact orderly_answer _ _ _ h
    · split
      · exact orderly_answer _ _ _ h
      · have hlow : Callable { s with op := .run } := callable_low (h.low (by simp [hconfig])) h.callable.2
        exact orderly_answer _ _ _ (orderly_evaluateEntry ((sameTransport_startSteps s _).callable hlow)
          (sameTransport_startSteps s _).op)

theorem orderly_takeStop {s : State} (c : HeldCommand) (h : Orderly s) : Orderly (s.takeStop c) := by
  unfold State.takeStop
  split
  · exact orderly_answer _ _ _ h
  · exact orderly_answer _ _ _ (orderly_leaveForConfig h.callable)

theorem orderly_takeOverride {s : State} (c : HeldCommand) (code : Byte) (h : Orderly s) :
    Orderly (s.takeOverride c code) := by
  unfold State.takeOverride
  dsimp only
  split
  · exact orderly_answer _ _ _ h
  · split
    · exact orderly_answer _ _ _ (orderly_eventCause .hostSet h)
    · split <;> exact orderly_answer _ _ _ h

theorem orderly_takeHold {s : State} (c : HeldCommand) (code : Option Word) (h : Orderly s) :
    Orderly (s.takeHold c code) := by
  unfold State.takeHold
  split
  · exact orderly_answer _ _ _ h
  · exact orderly_answer _ _ _ (orderly_handCause _ h)

/-- RESUME enters RUN, or HELD again, from the low GATE of HELD (R108, R151, R152). -/
theorem orderly_resumeRun {s : State} (c : HeldCommand) (d : Disposition) (p : Placing) (h : Orderly s)
    (hop : s.op = .held) : Orderly (s.resumeRun c d p) := by
  have hplace : SameTransport s ((s.acceptResume d).place p) := by
    cases p <;> constructor <;> simp [State.place, State.acceptResume]
  have hs := hplace.orderly h
  unfold State.resumeRun
  dsimp only
  split
  · exact orderly_answer _ _ _ (orderly_enterHeld _ _ hs.callable)
  · have hlow := hs.low (by simp [hplace.op, hop])
    exact orderly_answer _ _ _ (orderly_evaluateEntry (callable_low hlow hs.callable.2) rfl)

theorem orderly_resumeStop {s : State} (c : HeldCommand) (h : Orderly s) : Orderly (s.resumeStop c) :=
  orderly_answer _ _ _ (orderly_leaveForConfig h.callable)

theorem orderly_takeResume {s : State} (c : HeldCommand) (d : Byte) (h : Orderly s) : Orderly (s.takeResume c d) := by
  unfold State.takeResume
  split
  · exact orderly_answer _ _ _ h
  · rename_i hop
    have hheld : s.op = .held := by simpa using hop
    split
    · exact orderly_resumeRun c _ _ h hheld
    split
    · exact orderly_resumeRun c _ _ h hheld
    split
    · split
      · exact orderly_resumeRun c _ _ h hheld
      · exact orderly_answer _ _ _ h
    split
    · exact orderly_resumeStop c h
    · exact orderly_answer _ _ _ h

theorem orderly_takeResumeStep {s : State} (c : HeldCommand) (row col : Byte) (h : Orderly s) :
    Orderly (s.takeResumeStep c row col) := by
  unfold State.takeResumeStep
  split
  · exact orderly_answer _ _ _ h
  · rename_i hop
    split
    · exact orderly_resumeRun c _ _ h (by simpa using hop)
    · exact orderly_answer _ _ _ h

theorem orderly_takeShip {s : State} (c : HeldCommand) (h : Orderly s) : Orderly (s.takeShip c) := by
  unfold State.takeShip
  split
  · exact orderly_answer _ _ _ h
  · split
    · exact orderly_answer _ _ _ h
    · exact orderly_answer _ _ _ (orderly_callSetpoint (s := { s with path.ship := true }) h.callable)

theorem orderly_takeShuttle {s : State} (c : HeldCommand) (cell : Byte) (given : Option (Word × Byte)) (h : Orderly s) :
    Orderly (s.takeShuttle c cell given) := by
  have hstart (k : CellId) (q : Nat) : Orderly (s.hostShuttle k q) :=
    orderly_callSetpoint (SameTransport.callable (by constructor <;> simp) h.callable)
  unfold State.takeShuttle
  split
  · exact orderly_answer _ _ _ h
  · split
    · split
      · exact orderly_answer _ _ _ h
      · exact orderly_answer _ _ _ (hstart _ _)
    · exact orderly_answer _ _ _ h

theorem orderly_takeBalanceStop {s : State} (c : HeldCommand) (h : Orderly s) : Orderly (s.takeBalanceStop c) := by
  have hend : Orderly (s.endBalancing .command) := SameTransport.orderly (by constructor <;> simp) h
  have hstop : Orderly s.stopBalancing := by
    unfold State.stopBalancing
    dsimp only
    split
    · exact orderly_callSetpoint hend.callable
    · exact hend
  unfold State.takeBalanceStop
  split
  · exact orderly_answer _ _ _ hstop
  · exact orderly_answer _ _ _ h

/-- Every command to the hub keeps GATE and the slot (R161). -/
theorem orderly_act {s : State} (c : HeldCommand) (k : HubCommand) (h : Orderly s) : Orderly (s.act c k) := by
  obtain ⟨hload, hclear, hbank, hread, hswap, hgoto⟩ := sameTransport_steps s c
  obtain ⟨htable, hquery⟩ := sameTransport_reads s c
  obtain ⟨hoffer, haccept, hwithdraw⟩ := sameTransport_offers s c
  obtain ⟨hlock, hcharge, hbleed⟩ := sameTransport_settings s c
  obtain ⟨hcell, hocv, hderate, hguard, hlimit, hbalance, hroute⟩ := sameTransport_loadTable s c
  cases k with
  | loadStep bank row col e => exact (hload bank row col e).orderly h
  | clearEntry bank row col => exact (hclear bank row col).orderly h
  | clearBank bank => exact (hbank bank).orderly h
  | readStep bank row col => exact (hread bank row col).orderly h
  | loadCell i v => exact (hcell i v).orderly h
  | loadOcv i v w => exact (hocv i v w).orderly h
  | loadDerate i v w => exact (hderate i v w).orderly h
  | loadGuard i v => exact (hguard i v).orderly h
  | loadLimit i v => exact (hlimit i v).orderly h
  | loadBalance i v => exact (hbalance i v).orderly h
  | loadRoute i v => exact (hroute i v).orderly h
  | readTable table i => exact (htable table i).orderly h
  | lock => exact hlock.orderly h
  | start bank row col => exact orderly_takeStart c bank row col h
  | stop => exact orderly_takeStop c h
  | swap bank target => exact (hswap bank target).orderly h
  | goto row col => exact (hgoto row col).orderly h
  | override code => exact orderly_takeOverride c code h
  | hold code => exact orderly_takeHold c code h
  | resume d => exact orderly_takeResume c d h
  | resumeStep row col => exact orderly_takeResumeStep c row col h
  | offer v i cls => exact (hoffer v i cls).orderly h
  | accept => exact haccept.orderly h
  | withdraw => exact hwithdraw.orderly h
  | ship => exact orderly_takeShip c h
  | shuttle cell amount => exact orderly_takeShuttle c cell amount h
  | bleed cell setting => exact (hbleed cell setting).orderly h
  | balanceStop => exact orderly_takeBalanceStop c h
  | setCharge cell content => exact (hcharge cell content).orderly h
  | query selector argument part => exact (hquery selector argument part).orderly h
  | badArguments => exact orderly_answer c _ _ h
  | unknown => exact orderly_answer c _ _ h

theorem orderly_issue {s : State} (c : HeldCommand) (h : Orderly s) : Orderly (s.issue c) := by
  unfold State.issue
  split
  · exact orderly_act c _ h
  · split
    · exact orderly_forwardCommand c _ h
    · exact orderly_answer c _ _ h

/-! ## Events -/

theorem orderly_arbitrate {s : State} (h : Orderly s) : Orderly s.arbitrate :=
  SameTransport.orderly (by constructor <;> simp) h

theorem orderly_drain {s : State} (n : Nat) (h : Orderly s) : Orderly (s.drain n) := by
  induction n generalizing s with
  | zero => exact h
  | succ n ih =>
    unfold State.drain
    split
    · exact h
    · split
      · exact h
      · exact ih (orderly_arbitrate (orderly_issue _ h))

theorem orderly_settle {s : State} (h : Orderly s) : Orderly s.settle := orderly_drain _ (orderly_arbitrate h)

/-- The soft reset empties the slot and the node entries, and calls for CONFIG's setpoint (R108, R121, R168). -/
theorem orderly_takeReset (s : State) (seq : Byte) : Orderly (s.takeReset seq) := by
  let u := s.resetHold.resetQueues.resetRoutes.resetCells.resetSequencer.resetGuard.resetPath
  have hcall : Orderly (State.callSetpoint { u with op := .config, gate := false }) :=
    orderly_callSetpoint (callable_low rfl fun hs => absurd hs (by simp [u, State.resetPath]))
  exact SameTransport.orderly (by constructor <;> simp [State.takeReset, State.softReset, State.resetBalance, u]) hcall

theorem orderly_arriveCommand {s : State} (d e : Address) (q : Byte) (l : List Byte) (h : Orderly s) :
    Orderly (s.arriveCommand d e q l) := by
  unfold State.arriveCommand
  split
  · exact orderly_takeReset s q
  · exact SameTransport.orderly (by constructor <;> simp) h

/-- `o` ends in an orderly hub. -/
def EndsOrderly (o : Host.Outcome State Fault Refusal) : Prop := ∀ t, o = .next t → Orderly t

theorem endsOrderly_next {s : State} (h : Orderly s) : EndsOrderly (.next s) := by
  rintro t ⟨⟩
  exact h

/-- An event whose effect keeps GATE and the slot leaves them so at its end (R185). -/
theorem endsOrderly_event {s : State} {f : State → State} (h : Orderly s) (hf : ∀ u, Orderly u → Orderly (f u)) :
    EndsOrderly (s.event f) := by
  refine endsOrderly_next ?_
  split
  · exact h
  · exact orderly_settle (hf s h)

theorem endsOrderly_hubCommand {s : State} (seq : Byte) (k : HubCommand) (h : Orderly s) :
    EndsOrderly (s.hubCommand seq k) := endsOrderly_event h fun _ hu => orderly_arriveCommand _ _ _ _ hu

theorem orderly_reset (s : State) : Orderly { State.reset with pending := s.pending, fold := s.fold } :=
  ⟨fun hg => absurd hg (by simp [State.reset]), fun _ hp => absurd hp (by simp [State.reset])⟩

theorem endsOrderly_exec {s : State} (i : Instr) (h : Orderly s) : EndsOrderly (exec i s) := by
  cases i with
  | powerOnOrRst => exact endsOrderly_next (orderly_reset s)
  | rstRelease =>
    refine endsOrderly_next ?_
    split
    · exact orderly_settle (orderly_callSetpoint (s := { s with rst := false }) h.callable)
    · exact h
  | portUBadFrame => exact endsOrderly_event h fun _ hu => hu
  | portDBadFrame => exact endsOrderly_event h fun _ hu => orderly_badFrameD hu
  | unfitFrame => exact endsOrderly_event h fun _ hu => orderly_goodFrameD hu
  | otherFrameOnPortU => exact endsOrderly_event h fun _ hu => hu
  | command d e q l => exact endsOrderly_event h fun _ hu => orderly_arriveCommand d e q l hu
  | reset q => exact endsOrderly_event h fun u _ => orderly_takeReset u q
  | sample c f fold =>
    exact endsOrderly_event h fun u hu =>
      orderly_routeSample (s := { u.goodFrameD with fold := fold }) c f (orderly_goodFrameD hu)
  | input f => exact endsOrderly_event h fun _ hu => orderly_routeInput f (orderly_goodFrameD hu)
  | stage f => exact endsOrderly_event h fun _ hu => orderly_routeStage f (orderly_goodFrameD hu)
  | nodeReply n d q l => exact endsOrderly_event h fun _ hu => orderly_takeNodeReply n d q l (orderly_goodFrameD hu)
  | unknownCommand d e q l => exact endsOrderly_event h fun _ hu => orderly_arriveCommand d e q l hu
  | nodeCommand n e q l => exact endsOrderly_event h fun _ hu => orderly_arriveCommand (nodeAddress n) e q l hu
  | waitLimitExpiry => exact endsOrderly_event h fun _ hu => orderly_expireWait hu
  | nodeTimeout n => exact endsOrderly_event h fun _ hu => orderly_expireNode n hu
  | answerTimeout => exact endsOrderly_event h fun _ hu => orderly_expireAnswer hu
  | stalenessExpiry x => exact endsOrderly_event h fun _ hu => orderly_expireStaleness x hu
  | restExpiry c => exact endsOrderly_event (f := fun u => u.expireRest c) h fun _ hu => orderly_expireRest c hu
  | dwellExpiry => exact endsOrderly_event h fun _ hu => orderly_expireDwell hu
  | timeLimitExpiry => exact endsOrderly_event h fun _ hu => orderly_expireTimeLimit hu
  | cooldownExpiry => exact endsOrderly_event h fun _ hu => hu
  | portUFrameSent => exact endsOrderly_event h fun _ hu => orderly_sentU hu
  | portDFrameSent => exact endsOrderly_event h fun _ hu => orderly_sentD hu
  | _ => exact endsOrderly_hubCommand _ _ h

theorem endsOrderly_step {s : State} (h : Orderly s) : EndsOrderly (step s) := by
  unfold step
  split
  · unfold State.idle
    split
    · exact endsOrderly_next h
    · split
      · exact endsOrderly_next (orderly_tick h)
      · exact endsOrderly_exec _ h
  · exact endsOrderly_exec _ h

/-- Settles O48: each operation of the hub keeps the two laws or calls for a setpoint, which establishes them
(`orderly_callSetpoint`), and every step is made of those operations (`endsOrderly_step`). -/
theorem stepKeepsGate : Obligations.StepKeepsGate := fun _ t h ht => endsOrderly_step h t ht

end Sys2Proof.PowerPath
end

section
/-! SUPPORT. The power path's commands and the frames on port D: a SETPOINT sent or left in the slot, a node's release, and
OFFER, ACCEPT, WITHDRAW and SHIP (R107 to R119, R164, R170, R173). -/

namespace Sys2Proof.PowerPath

open Sys2Proof.Machine Sys2Proof.Sequencing

/-! ## Frames handed to port D -/

/-- A frame handed to port D stands behind those on their way (R170). -/
@[simp] theorem handD_portD (s : State) (f : Frame) : (s.handD f).link.portD = s.link.portD ++ [f] := by
  unfold State.handD LinkUnit.portD
  split <;> simp_all

/-- A frame the hub composes takes port D's sequence number, which advances (R173). -/
@[simp] theorem composeD_portD (s : State) (mk : Byte → Frame) :
    (s.composeD mk).link.portD = s.link.portD ++ [mk s.link.seqD] ∧ (s.composeD mk).link.seqD = s.link.seqD + 1 := by
  unfold State.composeD
  refine ⟨?_, by simp⟩
  rw [handD_portD]
  rfl

@[simp] theorem arbitrate_portD (s : State) : s.arbitrate.link.portD = s.link.portD := by simp [LinkUnit.portD]

@[simp] theorem entered_portD (s : State) (seq : Byte) (k : HubCommand) :
    (s.entered seq k).link.portD = s.link.portD := by simp [LinkUnit.portD]

/-- What a SETPOINT that is sent writes (R108, R114, R115, R173). -/
@[simp] theorem sendSetpoint_sent (s : State) (p : Setpoint) :
    (s.sendSetpoint p).path = { s.path with lastSetpoint := some ⟨p, s.link.seqD⟩ }
      ∧ (s.sendSetpoint p).cmd = { s.cmd with nodes := s.cmd.nodes.set .s4 (.setpoint ⟨p, s.link.seqD⟩ 0) }
      ∧ (s.sendSetpoint p).gate = (decide (s.op = .run) && decide (p.mode = .charge) && decide (p.charge > 0))
      ∧ (s.sendSetpoint p).link.portD = s.link.portD ++ [setpointFrame p s.link.seqD]
      ∧ (s.sendSetpoint p).link.seqD = s.link.seqD + 1 := by
  simp [State.sendSetpoint]

/-- With NODE4 free a setpoint called for is sent (R115). -/
theorem transport_free {s : State} (p : Setpoint) (h : s.cmd.nodes.get .s4 = .empty) :
    s.transport p = s.sendSetpoint p := by
  simp [State.transport, State.reserved, h]

/-- With NODE4 held it stands in the slot (R115). -/
theorem transport_held {s : State} (p : Setpoint) (h : s.cmd.nodes.get .s4 ≠ .empty) :
    s.transport p = { s with path.slot := some p } := by
  simp [State.transport, State.reserved, h]

/-! ## A node's release -/

/-- `s` with a node's entry emptied. -/
def freed (s : State) (n : NodeId) : State := { s with cmd.nodes := s.cmd.nodes.set n .empty }

/-- The release of NODE4 sends the slot's setpoint (R116, R119). -/
theorem releaseNode_slot {s : State} {p : Setpoint} (h : s.path.slot = some p) :
    s.releaseNode .s4 = State.sendSetpoint { freed s .s4 with path.slot := none } p := by
  unfold State.releaseNode
  dsimp only
  split
  · rename_i q _ hq
    obtain rfl : p = q := Option.some.inj (h.symm.trans hq)
    rfl
  · rename_i hnone
    exact absurd h (hnone p rfl)

/-- Any other release issues the head, if it waits for the node (R158, log 30). -/
theorem releaseNode_head {s : State} {n : NodeId} (h : n = .s4 → s.path.slot = none) :
    s.releaseNode n = (freed s n).forwardHead n := by
  unfold State.releaseNode
  dsimp only
  split
  · rename_i p hp
    exact absurd (hp.symm.trans (h rfl)) (by simp)
  · rfl

/-- With no command waiting it empties the entry and no more. -/
theorem releaseNode_quiet {s : State} {n : NodeId} (hh : s.head = none) (h : n = .s4 → s.path.slot = none) :
    s.releaseNode n = freed s n := by
  rw [releaseNode_head h, State.forwardHead_none]
  exact hh

/-- With no command waiting, a release leaves the command queue. -/
theorem releaseNode_held {s : State} (n : NodeId) (hh : s.head = none) : (s.releaseNode n).cmd.held = s.cmd.held := by
  by_cases h : n = .s4 ∧ s.path.slot ≠ none
  · obtain ⟨rfl, hs⟩ := h
    obtain ⟨p, hp⟩ := Option.ne_none_iff_exists'.mp hs
    simp [releaseNode_slot hp, freed]
  · rw [releaseNode_quiet hh (by simpa using h)]
    rfl

theorem nodes_set_set (p : PerNode NodeEntry) (n : NodeId) (a b : NodeEntry) : (p.set n a).set n b = p.set n b := by
  cases n <;> rfl

/-! ## OFFER, ACCEPT and WITHDRAW -/

/-- A command that writes the path unit acts on the state it finds. -/
theorem entered_withPath (s : State) (p : PathUnit) (seq : Byte) (k : HubCommand) :
    State.entered { s with path := p } seq k = { s.entered seq k with path := p } := by
  simp only [State.entered, arbitrate_eq]
  rfl

theorem offer_reads (v i : Word) (cls : Byte) :
    parseCommand (encodeCommand (.offer v i cls)) = .offer v i cls := by
  simp [encodeCommand, parseCommand, readOffer]

/-- An OFFER that changes the hub from `s` to `t` and is answered. -/
theorem exec_offer {s t : State} {seq cls : Byte} {v i : Word} {status : Status} {results : List Field}
    (h : s.ready = true) (hheld : t.cmd.held = s.cmd.held)
    (ha : (s.entered seq (.offer v i cls)).takeOffer (s.heldAs seq (.offer v i cls) .waiting) v i cls
      = (t.entered seq (.offer v i cls)).answer (s.heldAs seq (.offer v i cls) .waiting) status results) :
    exec (.offer seq v i cls) s = .next (t.replied seq (.offer v i cls) status results) :=
  hubCommand_answers h (offer_reads v i cls) rfl (blockedOn_free rfl) hheld ha

theorem takeOffer_badClass {u : State} (c : HeldCommand) (v i : Word) {cls : Byte} (h : cls.toNat > 3) :
    u.takeOffer c v i cls = u.answer c .badEntry [] := by
  rw [State.takeOffer, dif_neg (by omega)]

theorem takeOffer_absent {u : State} (c : HeldCommand) (v i : Word) {cls : Byte} (h : cls.toNat ≤ 3)
    (hp : u.path.present = false) : u.takeOffer c v i cls = u.answer c .state [.mark false] := by
  rw [State.takeOffer, dif_pos (by omega), if_neg (by simp [hp]), hp]

/-- The offer an OFFER makes pending: its figures brought into their ranges (R109). -/
def clampedOffer (v i : Word) (k : Fin 4) : Offer := ⟨max 5000 (min 20000 v.toNat), max 500 (min 5000 i.toNat), k⟩

theorem takeOffer_pending {u : State} (c : HeldCommand) (v i : Word) {cls : Byte} {k : Fin 4} (h : cls.toNat = k.val)
    (hp : u.path.present = true) :
    u.takeOffer c v i cls
      = State.answer { u with path.pendingOffer := some (clampedOffer v i k) } c
          (okOr ((clampedOffer v i k).voltage ≠ v.toNat || (clampedOffer v i k).current ≠ i.toNat))
          ((clampedOffer v i k).fields ++ optional u.path.acceptedOffer Offer.fields Offer.zero
            ++ [.mark true, .mark u.path.pendingOffer.isSome]) := by
  have hk : (⟨cls.toNat, by omega⟩ : Fin 4) = k := Fin.ext h
  rw [State.takeOffer, dif_pos (by omega), if_pos hp, hp, hk]
  rfl

/-- Settles O34, by R109's order of its refusals. -/
theorem offerTaken : Obligations.OfferTaken := by
  intro s seq v i cls h
  refine ⟨fun hcls => ?_, fun hcls hp => ?_, fun k hk hp => ?_⟩
  · exact exec_offer h rfl (takeOffer_badClass _ v i hcls)
  · exact exec_offer h rfl (takeOffer_absent _ v i hcls (by simpa using hp))
  · intro volts amps
    refine exec_offer (t := { s with path.pendingOffer := some ⟨volts, amps, k⟩ }) h rfl ?_
    rw [takeOffer_pending _ v i hk (by simpa using hp),
      entered_withPath s { s.path with pendingOffer := some ⟨volts, amps, k⟩ }]
    have hstatus : okOr (decide (volts ≠ v.toNat) || decide (amps ≠ i.toNat))
        = if volts = v.toNat ∧ amps = i.toNat then .ok else .clamped := by
      by_cases hv : volts = v.toNat <;> by_cases hi : amps = i.toNat <;> simp [okOr, hv, hi]
    rw [← hstatus]
    simp only [entered_frame]
    cases s.path.acceptedOffer <;> rfl

theorem takeAccept_none {u : State} (c : HeldCommand) (h : u.path.pendingOffer = none) :
    u.takeAccept c = u.answer c .badEntry [] := by
  simp [State.takeAccept, h]

theorem takeAccept_some {u : State} (c : HeldCommand) {o : Offer} (h : u.path.pendingOffer = some o) :
    u.takeAccept c
      = State.answer { u with path.acceptedOffer := some o, path.pendingOffer := none } c .ok o.fields := by
  simp [State.takeAccept, h, State.promote]

/-- Settles O35: ACCEPT by the pending offer, WITHDRAW as it stands. -/
theorem acceptAndWithdraw : Obligations.AcceptAndWithdraw := by
  intro s seq h
  refine ⟨fun hp => ?_, fun o ho => ?_, ?_⟩
  · exact hubCommand_answers h rfl rfl (blockedOn_free rfl) rfl (takeAccept_none _ (by simpa using hp))
  · refine hubCommand_answers (t := { s with path.acceptedOffer := some o, path.pendingOffer := none }) h rfl rfl
      (blockedOn_free rfl) rfl ?_
    rw [entered_withPath s { s.path with acceptedOffer := some o, pendingOffer := none }]
    refine (takeAccept_some _ (o := o) (by simpa using ho)).trans ?_
    simp only [entered_frame]
    rfl
  · refine hubCommand_answers (t := { s with path.pendingOffer := none, path.acceptedOffer := none }) h rfl rfl
      (blockedOn_free rfl) rfl ?_
    rw [entered_withPath s { s.path with pendingOffer := none, acceptedOffer := none }]
    show State.takeWithdraw _ _ = _
    simp only [State.takeWithdraw, entered_frame]

/-! ## SHIP -/

theorem takeShip_outside {u : State} (c : HeldCommand) (h : u.op ≠ .config) : u.takeShip c = u.answer c .state [] := by
  simp [State.takeShip, h]

theorem takeShip_set {u : State} (c : HeldCommand) (h : u.op = .config) (hs : u.path.ship = true) :
    u.takeShip c = u.answer c .ok [.mark true] := by
  simp [State.takeShip, h, hs]

/-- The SETPOINT SHIP (R107). -/
def shipSetpoint : Setpoint := ⟨.ship, 0, .off, 0, .config⟩

/-- Ship mode set. -/
def shipping (s : State) : State := { s with path.ship := true }

/-- SHIP sets ship mode, which calls for the SETPOINT SHIP (R112). -/
theorem takeShip_ships {u : State} (c : HeldCommand) (h : u.op = .config) (hs : u.path.ship = false) :
    u.takeShip c = ((shipping u).transport shipSetpoint).answer c .ok [.mark false] := by
  have hp : (shipping u).idleSetpoint = shipSetpoint := by simp [State.idleSetpoint, h, shipSetpoint, shipping]
  have hcall : (shipping u).callSetpoint = (shipping u).transport shipSetpoint := by
    rw [State.callSetpoint, if_neg (by simp [shipping, h]), hp]
  rw [State.takeShip, if_neg (by simp [h]), if_neg (by simp [hs]), ← hcall]
  rfl

/-- Settles O36: the refusals, and the SETPOINT SHIP in the slot or sent. -/
theorem shipTaken : Obligations.ShipTaken := by
  intro s seq h
  refine ⟨fun hop => ?_, fun hop hs => ?_, fun hop hs => ⟨fun hn => ?_, fun hn => ?_⟩⟩
  · exact hubCommand_answers h rfl rfl (blockedOn_free rfl) rfl (takeShip_outside _ (by simpa using hop))
  · exact hubCommand_answers h rfl rfl (blockedOn_free rfl) rfl (takeShip_set _ (by simpa using hop) (by simpa using hs))
  · refine hubCommand_answers (t := { s with path.ship := true, path.slot := some shipSetpoint }) h rfl rfl
      (blockedOn_free rfl) rfl ?_
    rw [entered_withPath s { s.path with ship := true, slot := some shipSetpoint }]
    refine (takeShip_ships _ (by simpa using hop) (by simpa using hs)).trans ?_
    rw [transport_held _ (by simpa [shipping] using hn)]
    simp only [shipping, entered_frame]
  · have hact := takeShip_ships (u := s.entered seq .ship) (s.heldAs seq .ship .waiting) (by simpa using hop)
      (by simpa using hs)
    obtain ⟨hexec, -⟩ := hubCommand_acts (seq := seq) (k := .ship) h rfl rfl rfl hact
      (keepsQueue_of_held (by simp [shipping]))
    rw [transport_free _ (by simpa [shipping] using hn)] at hexec
    refine ⟨_, hexec, ?_⟩
    simp [shipping, hop, shipSetpoint]

end Sys2Proof.PowerPath
end

section
/-! SUPPORT. What port D's nodes send the power path: a node's REPLY, a STAGE report without a fault, and the answer timeout
(R108, R115 to R120, R144, R148, R164, R174, R176). -/

namespace Sys2Proof.PowerPath

open Sys2Proof.Machine Sys2Proof.Sequencing

/-! ## A good frame on port D -/

@[simp] theorem goodFrameD_portD (s : State) : s.goodFrameD.link.portD = s.link.portD := by simp [LinkUnit.portD]

/-- The link condition mark after a good frame: cleared where the frame ends a run of four or more bad ones (R78, R172). -/
theorem goodFrameD_guard (s : State) :
    s.goodFrameD.guard = { s.guard with linkMark := s.guard.linkMark && decide (s.link.badCount < 4) } := by
  by_cases h : s.link.badCount < 4
  · simp [goodFrameD_short h, h]
  · simp [goodFrameD_ending (not_lt.mp h), h]

theorem goodFrameD_head (s : State) : s.goodFrameD.head = s.head := head_of_held (by simp)

/-- The forward queue takes a frame where it has room (R178). -/
theorem placeForward_room {s : State} (u : UpFrame) (h : s.out.forward.length < 8) :
    (s.placeForward u).out.forward = s.out.forward ++ [u] := by
  simp [State.placeForward, Config.forwardMax, h]

/-- With nothing waiting and port U idle, a forwarded frame is sent at once (R180). -/
theorem arbitrate_forward {s : State} {u : UpFrame} (hu : s.link.sendingU = none) (ho : s.out = ⟨[], [], [u]⟩) :
    s.arbitrate.link.sendingU = some u ∧ s.arbitrate.out = ⟨[], [], []⟩ := by
  simp [State.arbitrate, hu, ho]

/-! ## A node's REPLY -/

/-- A REPLY of node `n` to the command at a place, as it is forwarded (R164). -/
def forwardedReply (n : NodeId) (dest : Address) (seq : Byte) (payload : List Byte) (place : Nat) : UpFrame :=
  ⟨⟨dest, nodeAddress n, kindReply, seq, payload⟩, some place⟩

/-- A REPLY placed in the forward queue, and the command it answers REPLIED, before the node's release (R164). -/
def answering (s : State) (u : UpFrame) (place : Nat) : State :=
  (s.goodFrameD.placeForward u).updateHeld place HeldCommand.replied

theorem answering_held (s : State) (u : UpFrame) (place : Nat) :
    (answering s u place).cmd.held
      = s.cmd.held.map fun c => if c.place = place then { c with state := .replied, wait := none } else c := by
  have h : s.goodFrameD.cmd.held = s.cmd.held := by simp
  rw [← h]
  rfl

theorem answering_head {s : State} (u : UpFrame) (place : Nat) (h : s.head = none) :
    (answering s u place).head = none :=
  (keepsQueue_answerAt (s.goodFrameD.placeForward u) place 0 .ok []).head ((goodFrameD_head s).trans h)

theorem answering_out (s : State) (u : UpFrame) (place : Nat) :
    (answering s u place).out = (s.placeForward u).out := by
  simp [answering, State.placeForward]

theorem takeNodeReply_answers {s : State} {n : NodeId} {place : Nat} {q : Byte} {ms : Nat}
    (h : s.cmd.nodes.get n = .command place q ms) (dest : Address) (seq : Byte) (payload : List Byte) :
    s.goodFrameD.takeNodeReply n dest seq payload
      = (answering s (forwardedReply n dest seq payload place) place).releaseNode n := by
  simp [State.takeNodeReply, h, answering, forwardedReply]

/-- With no command in the entry the REPLY is dropped and counted (R164). -/
theorem takeNodeReply_late {s : State} {n : NodeId} (h : ∀ place q ms, s.cmd.nodes.get n ≠ .command place q ms)
    (dest : Address) (seq : Byte) (payload : List Byte) :
    s.goodFrameD.takeNodeReply n dest seq payload
      = { s.goodFrameD with cmd.late := s.goodFrameD.cmd.late.set n (bump (s.goodFrameD.cmd.late.get n)) } := by
  unfold State.takeNodeReply
  split
  · rename_i place q ms he
    exact absurd (by simpa using he) (h place q ms)
  · rfl

theorem exec_nodeReply {s u : State} {n : NodeId} {dest : Address} {seq : Byte} {payload : List Byte}
    (hq : s.quiet = true) (hu : s.goodFrameD.takeNodeReply n dest seq payload = u) (hh : u.head = none) :
    exec (.nodeReply n dest seq payload) s = .next u.arbitrate := by
  obtain ⟨hr, -⟩ := quiet_parts hq
  subst hu
  exact event_quiet (f := fun t => t.goodFrameD.takeNodeReply n dest seq payload) hr hh

/-- Where the forwarded REPLY of a node stands at the event's end: `u` is the hub after the node's release. -/
theorem reply_forwarded {s u : State} {f : UpFrame} {place : Nat} (hu : u.link.sendingU = s.link.sendingU)
    (ho : u.out = (answering s f place).out) :
    (s.link.sendingU.isSome → s.out.forward.length < 8 → u.arbitrate.out.forward = s.out.forward ++ [f])
      ∧ (s.link.sendingU = none → s.out = ⟨[], [], []⟩ →
          u.arbitrate.link.sendingU = some f ∧ u.arbitrate.out = s.out) := by
  rw [answering_out] at ho
  refine ⟨fun hbusy hroom => ?_, fun hidle hempty => ?_⟩
  · rw [arbitrate_busy (by rw [hu]; exact hbusy), ho, placeForward_room f hroom]
  · rw [hempty]
    exact arbitrate_forward (hu.trans hidle) (by rw [ho]; simp [State.placeForward, hempty, Config.forwardMax])

/-- Settles O15, by what the node's entry holds and, for node 4, by the slot. -/
theorem nodeReplyTaken : Obligations.NodeReplyTaken := by
  intro s n dest seq payload hq
  obtain ⟨-, hh⟩ := quiet_parts hq
  refine ⟨fun place q ms he hs => ?_, fun place q ms p hn he hs => ?_, fun hnone => ?_⟩
  · have hhead := answering_head (forwardedReply n dest seq payload place) place hh
    have hu := takeNodeReply_answers he dest seq payload
    rw [releaseNode_quiet hhead (by simpa [answering] using hs)] at hu
    obtain ⟨hbusy, hidle⟩ := reply_forwarded (s := s) (f := forwardedReply n dest seq payload place) (place := place)
      (u := freed (answering s (forwardedReply n dest seq payload place) place) n) (by simp [freed, answering]) rfl
    refine ⟨_, exec_nodeReply hq hu hhead, ?_, ?_, hbusy, hidle, ?_⟩
    · simp [freed, answering]
    · rw [arbitrate_held]
      exact answering_held s _ place
    · simp [freed, answering]
  · subst hn
    have hhead := answering_head (forwardedReply .s4 dest seq payload place) place hh
    have hu := takeNodeReply_answers he dest seq payload
    have hheld := releaseNode_held .s4 hhead
    rw [releaseNode_slot (p := p) (by simpa [answering] using hs)] at hu hheld
    obtain ⟨hbusy, hidle⟩ := reply_forwarded (s := s) (f := forwardedReply .s4 dest seq payload place) (place := place)
      (u := State.sendSetpoint
        { freed (answering s (forwardedReply .s4 dest seq payload place) place) .s4 with path.slot := none } p)
      (by simp [freed, answering]) (by simp [freed])
    refine ⟨_, exec_nodeReply hq hu ((head_of_held hheld).trans hhead), ?_, ?_, ?_, ?_, ?_, ?_, hbusy, hidle, ?_, ?_⟩
    · simp [freed, answering, nodes_set_set]
    · simp [freed, answering]
    · simp [freed, answering]
    · simp [freed, answering]
    · simp [freed, answering]
    · rw [arbitrate_held, hheld]
      exact answering_held s _ place
    · simp [freed, answering, goodFrameD_guard]
    · simp [freed, answering, State.sameTables]
  · have hu := takeNodeReply_late hnone dest seq payload
    refine ⟨_, exec_nodeReply hq hu ((goodFrameD_head s).trans hh), ?_⟩
    refine ⟨by simp [bump], by simp, by simp, by simp, by simp, by simp, by simp, by simp, by simp, by simp,
      fun hbusy => ?_⟩
    rw [arbitrate_busy (by simpa using hbusy)]
    simp

/-! ## A STAGE report without a fault -/

/-- What the pass decision on a frame appends to a forward queue with room (R174, R176). -/
theorem forwardPlain_decided {s : State} (e : RouteEntry) (f : Frame) (h : s.out.forward.length < 8) :
    (s.forwardPlain e.decide.1 f).out.forward
      = s.out.forward ++ (if e.pass ≠ .off ∧ e.counter + 1 ≥ e.n then [⟨f, none⟩] else []) := by
  have hplaced := placeForward_room ⟨f, none⟩ h
  obtain ⟨use, pass, n, counter⟩ := e
  cases pass with
  | off => simp [RouteEntry.decide, State.forwardPlain]
  | _ =>
    by_cases hn : n ≤ counter + 1
    · simpa [RouteEntry.decide, hn, State.forwardPlain] using hplaced
    · simp [RouteEntry.decide, hn, State.forwardPlain]

/-- A good frame heard from a node, with its route entry's decimation counter worked (R172, R176). -/
def heard (s : State) (i : Fin 12) : State := (s.goodFrameD.routeDecision i).2

/-- A STAGE report in the stage record, before NODE4's release (R116). -/
def recorded (s : State) (f : StageFrame) (answered : Bool) : State :=
  { heard s stageRoute with
    path.stage := some ⟨f.applied.toNat, f.mode, f.shuttle, f.fault, f.seq, answered⟩
    path.silent := 0
    path.overdue := false }

/-- A STAGE report without a fault as the path unit leaves it (R116). -/
def reported (s : State) (f : StageFrame) : State :=
  if s.reportAnswers f then (recorded s f true).releaseNode .s4 else recorded s f false

theorem recorded_head {s : State} (f : StageFrame) (b : Bool) (h : s.head = none) : (recorded s f b).head = none :=
  (head_of_held (by simp [recorded, heard])).trans h

theorem reported_held {s : State} (f : StageFrame) (h : s.head = none) : (reported s f).cmd.held = s.cmd.held := by
  have hrec (b : Bool) : (recorded s f b).cmd.held = s.cmd.held := by simp [recorded, heard]
  unfold reported
  split
  · exact (releaseNode_held .s4 (recorded_head f true h)).trans (hrec true)
  · exact hrec false

theorem heard_reportAnswers (s : State) (f : StageFrame) : (heard s stageRoute).reportAnswers f = s.reportAnswers f := by
  simp [State.reportAnswers, heard]

theorem takeStage_reported {s : State} {f : StageFrame} (passed : Bool) (h : f.fault = 0) :
    (heard s stageRoute).takeStage f passed = reported s f := by
  simp only [State.takeStage, heard_reportAnswers, h, if_true, State.enterReport, reported]
  cases s.reportAnswers f <;> simp [recorded, h]

theorem exec_stage_reported {s : State} {f : StageFrame} (hq : s.quiet = true)
    (huse : s.routes[stageRoute].use = true) (hf : f.fault = 0) :
    exec (.stage f) s
      = .next ((reported s f).forwardPlain s.routes[stageRoute].decide.1 (stageToFrame f)).arbitrate := by
  obtain ⟨hr, hh⟩ := quiet_parts hq
  have hroutes : s.goodFrameD.routes = s.routes := by simp
  have hu : s.goodFrameD.routeStage f
      = (reported s f).forwardPlain s.routes[stageRoute].decide.1 (stageToFrame f) := by
    unfold State.routeStage
    dsimp only
    rw [hroutes, if_pos huse, ← takeStage_reported (s.routes[stageRoute].decide.1 ≠ .off) hf]
    simp only [State.routeDecision, hroutes, heard]
  have hhead : (s.goodFrameD.routeStage f).head = none := by
    rw [hu]
    exact (head_of_held ((by simp : _ = (reported s f).cmd.held).trans (reported_held f hh))).trans hh
  rw [← hu]
  exact event_quiet (f := fun t => t.goodFrameD.routeStage f) hr hhead

/-- An answer with the slot empty frees NODE4 (R116). -/
theorem reported_answer {s : State} {f : StageFrame} (hh : s.head = none) (h : s.reportAnswers f = true)
    (hs : s.path.slot = none) : reported s f = freed (recorded s f true) .s4 := by
  rw [reported, if_pos h, releaseNode_quiet (recorded_head f true hh) (fun _ => by simpa [recorded, heard] using hs)]

/-- An answer with a setpoint in the slot sends it (R115, R116). -/
theorem reported_slot {s : State} {f : StageFrame} {q : Setpoint} (h : s.reportAnswers f = true)
    (hs : s.path.slot = some q) :
    reported s f = State.sendSetpoint { freed (recorded s f true) .s4 with path.slot := none } q := by
  rw [reported, if_pos h, releaseNode_slot (by simpa [recorded, heard] using hs)]

/-- Whether a report is an answer, by what is outstanding and whether an answer is overdue (R116, log 29). -/
theorem reportAnswers_cases (s : State) (f : StageFrame) :
    (∀ p ms, s.cmd.nodes.get .s4 = .setpoint p ms → s.path.overdue = false → s.reportAnswers f = true)
      ∧ ((∀ p ms, s.cmd.nodes.get .s4 ≠ .setpoint p ms) → s.reportAnswers f = false) := by
  refine ⟨fun p ms hp ho => ?_, fun hn => ?_⟩
  · have he : s.cmd.nodes.s4 = .setpoint p ms := hp
    simp [State.reportAnswers, he, ho]
  · unfold State.reportAnswers
    split
    · rename_i p ms he
      exact absurd he (hn p ms)
    · rfl

/-- Settles O14: a report is an answer or unsolicited (`reportAnswers_cases`), and what each leaves. -/
theorem stageReported : Obligations.StageReported := by
  intro s f hq huse hf report unsolicited answer
  obtain ⟨-, hh⟩ := quiet_parts hq
  have hanswer (h : s.reportAnswers f = true) :
      answer ((reported s f).forwardPlain s.routes[stageRoute].decide.1 (stageToFrame f)).arbitrate := by
    refine ⟨fun hs => ?_, fun q hs => ?_⟩
    · rw [reported_answer hh h hs]
      simp [freed, recorded, heard, report, hf]
    · rw [reported_slot h hs]
      simp [freed, recorded, heard, report, hf, nodes_set_set]
  have hunsolicited (h : s.reportAnswers f = false) :
      unsolicited ((reported s f).forwardPlain s.routes[stageRoute].decide.1 (stageToFrame f)).arbitrate := by
    simp [unsolicited, reported, h, recorded, heard, report, hf]
  obtain ⟨hdue, hnone⟩ := reportAnswers_cases s f
  have hframe : (reported s f).op = s.op ∧ (reported s f).cells = s.cells ∧ (reported s f).seqr = s.seqr
      ∧ (reported s f).balance = s.balance ∧ (reported s f).hold = s.hold ∧ (reported s f).fold = s.fold
      ∧ (reported s f).out = s.out ∧ (reported s f).link.sendingU = s.link.sendingU := by
    unfold reported
    split <;> simp [recorded, heard]
  obtain ⟨hop, hcells, hseqr, hbalance, hhold, hfold, hout, hsending⟩ := hframe
  refine ⟨_, exec_stage_reported hq huse hf, by simpa using hop, by simpa using hcells, by simpa using hseqr,
    by simpa using hbalance, by simpa using hhold, by simpa using hfold, by simpa using reported_held f hh,
    fun p ms hp ho => hanswer (hdue p ms hp ho), fun p ms _ _ => ?_, fun hn => hunsolicited (hnone hn),
    fun hbusy hroom => ?_⟩
  · cases h : s.reportAnswers f with
    | true => exact .inl (hanswer h)
    | false => exact .inr (hunsolicited h)
  · rw [arbitrate_busy (by simpa [hsending] using hbusy), forwardPlain_decided _ _ (by rw [hout]; exact hroom), hout]

/-! ## The answer timeout -/

/-- A hold cause handed outside RUN: in HELD it goes pending or marks the repeat, in CONFIG it is dropped (R141, R148). -/
def holdAfter (op : OpState) (h : HoldUnit) (c : HoldCause) : HoldUnit :=
  match op, h.pendingHold with
  | .held, none => { h with pendingHold := some c }
  | .held, some _ => { h with record := h.record.map fun r => { r with repeated := true } }
  | _, _ => h

theorem handCause_idle {s : State} (c : HoldCause) (h : s.op ≠ .run) :
    s.handCause c = { s with hold := holdAfter s.op s.hold c } := by
  obtain ⟨_, _, _, _, op, _, _, _, _, _, _, _, _, _, ⟨_, pending⟩⟩ := s
  cases op with
  | run => exact absurd rfl h
  | config => rfl
  | held => cases pending <;> rfl

/-- An answer timeout counted: the silent count and the mark of an overdue answer (R117, log 29). -/
def silenced (s : State) : State := { s with path.silent := bump s.path.silent, path.overdue := true }

/-- In RUN the slot is discarded and NODE4 freed before the hold entry (R117). -/
theorem expireAnswer_run {s : State} {p : SentSetpoint} {ms : Nat} (hh : s.head = none)
    (h : s.cmd.nodes.get .s4 = .setpoint p ms) (hop : s.op = .run) :
    s.expireAnswer = (freed { silenced s with path.slot := none } .s4).enterHeld (silentCause p.seq) false := by
  have he : s.cmd.nodes.s4 = .setpoint p ms := h
  have hrelease := releaseNode_quiet (s := { silenced s with path.slot := none }) (n := .s4) hh (fun _ => rfl)
  simp only [State.expireAnswer, he, if_pos hop]
  rw [← handCause_run (silentCause p.seq) (by exact hop), ← hrelease]
  rfl

/-- Outside RUN the slot's setpoint is sent (R116, R117). -/
theorem expireAnswer_idle {s : State} {p : SentSetpoint} {ms : Nat}
    (h : s.cmd.nodes.get .s4 = .setpoint p ms) (hop : s.op ≠ .run) :
    s.expireAnswer
      = { (silenced s).releaseNode .s4 with hold := holdAfter s.op s.hold (silentCause p.seq) } := by
  have he : s.cmd.nodes.s4 = .setpoint p ms := h
  have hcause : s.expireAnswer = ((silenced s).releaseNode .s4).handCause (silentCause p.seq) := by
    simp only [State.expireAnswer, he, if_neg hop]
    rfl
  have hop' : ((silenced s).releaseNode .s4).op = s.op := by simp [silenced]
  have hhold : ((silenced s).releaseNode .s4).hold = s.hold := by simp [silenced]
  rw [hcause, handCause_idle _ (by rw [hop']; exact hop)]
  simp only [hop', hhold]

theorem keepsQueue_expireAnswer {s : State} (hh : s.head = none) : s.expireAnswer.head = none := by
  have hfree {w : State} (hw : w.head = none) (c : HoldCause) : ((w.releaseNode .s4).handCause c).head = none :=
    (keepsQueue_handCause _ c).head ((head_of_held (releaseNode_held .s4 hw)).trans hw)
  unfold State.expireAnswer
  dsimp only
  split
  · split
    · exact hfree (w := { silenced s with path.slot := none }) hh _
    · exact hfree (w := silenced s) hh _
  · exact hh

theorem exec_answerTimeout {s : State} (hq : s.quiet = true) :
    exec .answerTimeout s = .next s.expireAnswer.arbitrate := by
  obtain ⟨hr, hh⟩ := quiet_parts hq
  exact event_quiet hr (keepsQueue_expireAnswer hh)

/-- What NODE4's release outside RUN leaves, by the slot (R116, R117). -/
theorem silenced_release {s : State} (hh : s.head = none) :
    (s.path.slot = none → (silenced s).releaseNode .s4 = freed (silenced s) .s4)
      ∧ ∀ q, s.path.slot = some q →
        (silenced s).releaseNode .s4 = State.sendSetpoint { freed (silenced s) .s4 with path.slot := none } q :=
  ⟨fun hs => releaseNode_quiet (s := silenced s) hh (fun _ => hs), fun _ hs => releaseNode_slot (s := silenced s) hs⟩

/-- The silent count and the mark, and what an answer timeout leaves unchanged in every state. -/
theorem expireAnswer_counted {s : State} {p : SentSetpoint} {ms : Nat} (hh : s.head = none)
    (h : s.cmd.nodes.get .s4 = .setpoint p ms) :
    s.expireAnswer.path.silent = min 255 (s.path.silent + 1) ∧ s.expireAnswer.path.overdue = true := by
  by_cases hop : s.op = .run
  · rw [expireAnswer_run hh h hop]
    simp [freed, silenced, bump]
  · rw [expireAnswer_idle h hop]
    simp [silenced, bump]

/-- Settles O42, by the operating state: HELD's entry (`enterHeld_called`), or NODE4's release and the cause handed. -/
theorem answerTimesOut : Obligations.AnswerTimesOut := by
  intro s p ms hq he cause
  obtain ⟨-, hh⟩ := quiet_parts hq
  obtain ⟨hsilent, hoverdue⟩ := expireAnswer_counted hh he
  have hidle (hop : s.op ≠ .run) := expireAnswer_idle he hop
  refine ⟨_, exec_answerTimeout hq, by simpa using hsilent, by simpa using hoverdue, by simp [State.sameTables],
    by simp, by simp, fun hop => ?run, fun hop => ?idle, fun hop => ?config, fun hop hnone => ?first,
    fun hop hsome => ?again⟩
  case run =>
    let w := freed { silenced s with path.slot := none } .s4
    have hrun : s.expireAnswer = w.enterHeld cause false := expireAnswer_run hh he hop
    obtain ⟨hheld, hgate, hhold, hover, -⟩ := enterHeld_blocks w cause false
    have hseqr := enterHeld_seqr w cause false
    obtain ⟨hactive, -, -⟩ := enterHeld_balance w cause false
    have hcall := enterHeld_called w cause false
    rw [hrun]
    refine ⟨by simpa using hheld, by simpa using hgate, ⟨w.snapshot cause false, by simp [hhold], rfl, rfl, rfl, rfl⟩,
      by simpa using hover, by simp [hseqr], by simp [hseqr], by simpa using hactive, ?_⟩
    exact calledFor_to (sameCore_arbitrate _) (calledFor_from rfl rfl rfl hcall)
  case idle =>
    obtain ⟨hempty, hslot⟩ := silenced_release hh
    rw [hidle hop]
    refine ⟨by simp [silenced], by simp [silenced], by simp [silenced], ?_, fun hs => ?_, fun q hs => ?_⟩
    · simpa [silenced] using releaseNode_held (s := silenced s) .s4 hh
    · rw [hempty hs]
      simp [freed, silenced]
    · rw [hslot q hs]
      simp [freed, silenced, nodes_set_set]
  case config => simp [hidle, hop, holdAfter]
  case first => simp [hidle, hop, holdAfter, hnone, cause, silentCause]
  case again =>
    obtain ⟨x, hx⟩ := Option.isSome_iff_exists.mp hsome
    simp [hidle, hop, holdAfter, hx]

end Sys2Proof.PowerPath
end

section
/-! SUPPORT. Balancing: the shuttle's ends outside a hand-over, with the setpoint they call for in RUN (R113, R130 to R134,
R139). -/

namespace Sys2Proof.Balancing

open Sys2Proof.Machine Sys2Proof.Sequencing Sys2Proof.PowerPath

/-! ## A setpoint called for with the shuttle off -/

/-- With the shuttle IDLE, RUN's setpoint has the shuttle off (R107, R114). -/
theorem callSetpoint_off {s : State} (hop : s.op = .run) (hx : s.balance.shuttle.active = false) :
    s.callSetpoint
      = State.transport { s with path.computation := some s.compute } ⟨s.compute.mode, s.compute.iSet, .off, 0, .run⟩ := by
  simp [State.callSetpoint, hop, State.runSetpoint, hx]

/-- RUN's setpoint with the shuttle off, called for in `s` and sent or in the slot in `t` (R113, R115). -/
def CalledOff (s t : State) : Prop :=
  let p : Setpoint := ⟨s.compute.mode, s.compute.iSet, .off, 0, .run⟩
  t.path.computation = some s.compute
    ∧ (s.cmd.nodes.get .s4 = .empty →
        t.path.lastSetpoint = some ⟨p, s.link.seqD⟩
          ∧ t.cmd.nodes = s.cmd.nodes.set .s4 (.setpoint ⟨p, s.link.seqD⟩ 0)
          ∧ t.link.portD = s.link.portD ++ [setpointFrame p s.link.seqD]
          ∧ t.gate = (decide (p.mode = .charge) && decide (p.charge > 0)))
    ∧ (s.cmd.nodes.get .s4 ≠ .empty →
        t.path.slot = some p ∧ t.path.lastSetpoint = s.path.lastSetpoint ∧ t.cmd.nodes = s.cmd.nodes
          ∧ t.link.portD = s.link.portD ∧ t.gate = s.gate)

theorem calledOff_to {s t t' : State} (h : SameCore t t') (hc : CalledOff s t) : CalledOff s t' := by
  simpa only [CalledOff, h.path, h.nodes, h.portD, h.gate] using hc

theorem callSetpoint_calledOff {s : State} (hop : s.op = .run) (hx : s.balance.shuttle.active = false) :
    CalledOff s s.callSetpoint := by
  rw [callSetpoint_off hop hx]
  refine ⟨by simp, fun hn => ?_, fun hn => ?_⟩
  · rw [transport_free _ (by exact hn)]
    simp [hop]
  · rw [transport_held _ (by exact hn)]
    simp

/-! ## The end of a shuttle -/

/-- A shuttle ended (R133). -/
def endedShuttle (x : Shuttle) (why : EndReason) (cooldown : Option Nat) : Shuttle :=
  { x with active := false, endReason := why, lastTransferred := x.transferred, cooldown := cooldown }

/-- `s` with its shuttle context replaced. -/
def withShuttle (s : State) (x : Shuttle) : State := { s with balance.shuttle := x }

theorem endShuttle_idle {s : State} (why : EndReason) (h : s.balance.shuttle.active = false) : s.endShuttle why = s := by
  simp [State.endShuttle, h]

/-- The end of an ACTIVE shuttle writes the context and queues an alert (R133, R139). -/
theorem endShuttle_ends {s : State} (why : EndReason) (h : s.balance.shuttle.active = true) :
    s.endShuttle why
      = (withShuttle s (endedShuttle s.balance.shuttle why s.balance.cooldownLoad)).alert .balance (s.balanceAlert why) := by
  simp [State.endShuttle, h, withShuttle, endedShuttle]

/-- The end of a shuttle outside a hand-over: in RUN it calls for a setpoint (R113, R133). -/
def endOutside (s : State) (why : EndReason) : State :=
  if s.op = .run then (s.endShuttle why).callSetpoint else s.endShuttle why

/-- What the end of an ACTIVE shuttle outside a hand-over leaves: the balance unit, the alert, and in RUN a setpoint with the
shuttle off (R113, R133, R139). -/
theorem endOutside_ends {s : State} (why : EndReason) (h : s.balance.shuttle.active = true) :
    (endOutside s why).balance
        = { s.balance with shuttle := endedShuttle s.balance.shuttle why s.balance.cooldownLoad }
      ∧ (⟨.balance, s.balanceAlert why⟩ : Alert) ∈ (endOutside s why).out.alerts
      ∧ (s.op = .run → CalledOff s (endOutside s why))
      ∧ (s.op ≠ .run → (endOutside s why).path = s.path ∧ (endOutside s why).gate = s.gate
          ∧ (endOutside s why).link = s.link) := by
  have hcall : s.op = .run → CalledOff s (s.endShuttle why).callSetpoint := fun hop => by
    have hc := callSetpoint_calledOff (s := s.endShuttle why) (by simpa using hop) (endShuttle_active s why)
    have hk : (s.endShuttle why).compute = s.compute := by
      rw [endShuttle_ends why h]
      rfl
    simpa only [CalledOff, hk, State.endShuttle_frame] using hc
  have halert : (⟨.balance, s.balanceAlert why⟩ : Alert) ∈ (s.endShuttle why).out.alerts := by
    rw [endShuttle_ends why h]
    exact mem_putAlert _ _
  unfold endOutside
  split
  case isTrue hop =>
    exact ⟨by simp [endShuttle_ends why h, withShuttle], by simpa using halert, hcall, fun hn => absurd hop hn⟩
  case isFalse hop =>
    exact ⟨by simp [endShuttle_ends why h, withShuttle], halert, fun hr => absurd hr hop, fun _ => by simp⟩

theorem endOutside_frame (s : State) (why : EndReason) :
    s.sameTables (endOutside s why) ∧ (endOutside s why).op = s.op ∧ (endOutside s why).seqr = s.seqr
      ∧ (endOutside s why).guard = s.guard ∧ (endOutside s why).hold = s.hold
      ∧ (endOutside s why).cmd.held = s.cmd.held ∧ (endOutside s why).path.handOver = s.path.handOver := by
  unfold endOutside
  split <;> simp [State.sameTables]

theorem cellCode_eq (c : Option CellId) : cellCode c = match c with | some c => cellNumber c | none => 0 := by
  cases c <;> rfl

/-- The time-limit timer at its length (R132). -/
def timedOut (s : State) : State := withShuttle s { s.balance.shuttle with elapsed := s.balance.shuttle.length }

theorem expireTimeLimit_active {s : State} (h : s.balance.shuttle.active = true) :
    s.expireTimeLimit = endOutside (timedOut s) .timeout := by
  simp only [State.expireTimeLimit, if_pos h]
  rfl

theorem exec_timeLimitExpiry {s : State} (hq : s.quiet = true) :
    exec .timeLimitExpiry s = .next s.expireTimeLimit.arbitrate := by
  obtain ⟨hr, hh⟩ := quiet_parts hq
  exact event_quiet hr ((head_of_held (by simp)).trans hh)

/-- Settles O45: a count, or the end of a shuttle outside a hand-over (`endOutside_ends`). -/
theorem shuttleTimersExpire : Obligations.ShuttleTimersExpire := by
  unfold Obligations.ShuttleTimersExpire
  intro ended off alert
  refine ⟨?_, fun s hq => ⟨?_, fun ha => ?_, fun ha => ?_⟩⟩
  · intro s c interval balance x transferred remaining t
    refine ⟨fun h => ?_, fun ha hs hr => ?_, fun ha hs hr => ?_⟩
    · exact countShuttle_other interval balance h
    · exact (countShuttle_source interval balance ha hs).trans (if_neg (not_le.mpr hr))
    · have ht : t = endOutside (counted s (sampleCharge balance interval)) .done :=
        (countShuttle_source interval balance ha hs).trans (if_pos hr)
      obtain ⟨hbal, halert, hrun, hidle⟩ := endOutside_ends (s := counted s (sampleCharge balance interval)) .done ha
      obtain ⟨htables, hop, hseqr, hguard, hhold, hheld, hover⟩ :=
        endOutside_frame (counted s (sampleCharge balance interval)) .done
      rw [ht]
      refine ⟨hbal, ?_, htables, hop, hseqr, hguard, hhold, hheld, hover, hrun, hidle⟩
      simp only [State.balanceAlert, cellCode_eq] at halert
      exact halert
  · obtain ⟨hr, hh⟩ := quiet_parts hq
    exact event_quiet hr hh
  · obtain ⟨hbal, halert, hrun, hidle⟩ := endOutside_ends (s := timedOut s) .timeout ha
    obtain ⟨htables, hop, hseqr, hguard, hhold, hheld, hover⟩ := endOutside_frame (timedOut s) .timeout
    rw [exec_timeLimitExpiry hq, expireTimeLimit_active ha]
    have hsame := sameCore_arbitrate (endOutside (timedOut s) .timeout)
    have hsending : (endOutside (timedOut s) .timeout).link.sendingU = s.link.sendingU := by
      unfold endOutside
      split <;> simp [timedOut, withShuttle]
    refine ⟨_, rfl, hsame.balance.trans hbal, ?_, hsame.op.trans hop, hsame.seqr.trans hseqr, ?_,
      hsame.hold.trans hhold, (arbitrate_held _).trans hheld, ?_, fun hbusy => ?_,
      fun hrun' => calledOff_to hsame (hrun hrun'), fun hidle' => ?_⟩
    · have hkept : s.sameTables (endOutside (timedOut s) .timeout) := htables
      simpa [State.sameTables] using hkept
    · exact (arbitrate_guard _).trans hguard
    · rw [hsame.path]
      exact hover
    · rw [arbitrate_busy (by rw [hsending]; exact hbusy)]
      simp only [State.balanceAlert, cellCode_eq] at halert
      exact halert
    · obtain ⟨hpath, hgate, -⟩ := hidle hidle'
      exact ⟨hsame.path.trans hpath, hsame.gate.trans hgate⟩
  · rw [exec_timeLimitExpiry hq, State.expireTimeLimit, if_neg (by simp [ha])]

end Sys2Proof.Balancing
end

section
/-! SUPPORT. Balancing: the BLEED frames of an event, the decisions of a hand-over in their order (R125 to R131). -/

namespace Sys2Proof.Balancing

open Sys2Proof.Machine Sys2Proof.Sequencing Sys2Proof.PowerPath

/-! ## BLEED frames -/

/-- The BLEED frames of a list of settings, numbered from `q` (R127, R173). -/
def bleedFrames (q : Byte) : List (CellId × Bool) → List Frame
  | [] => []
  | x :: l => bleedFrame x.1 x.2 q :: bleedFrames (q + 1) l

/-- Sequence numbers count on (R173). -/
theorem seq_succ (q : Byte) (n : Nat) :
    q + 1#8 + BitVec.ofNat 8 n = q + BitVec.ofNat 8 (n + 1) ∧ q + BitVec.ofNat 8 n + 1#8 = q + BitVec.ofNat 8 (n + 1) := by
  constructor <;> (apply BitVec.eq_of_toNat_eq; simp only [BitVec.toNat_add, BitVec.toNat_ofNat]; omega)

theorem bleedFrames_append (q : Byte) (l m : List (CellId × Bool)) :
    bleedFrames q (l ++ m) = bleedFrames q l ++ bleedFrames (q + BitVec.ofNat 8 l.length) m := by
  induction l generalizing q with
  | nil => simp [bleedFrames]
  | cons x l ih => simp [bleedFrames, ih, seq_succ]

theorem bleedFrames_zipIdx (q : Byte) (l : List (CellId × Bool)) :
    l.zipIdx.map (fun x => bleedFrame x.1.1 x.1.2 (q + BitVec.ofNat 8 x.2)) = bleedFrames q l := by
  suffices h : ∀ k, (l.zipIdx k).map (fun x => bleedFrame x.1.1 x.1.2 (q + BitVec.ofNat 8 x.2))
      = bleedFrames (q + BitVec.ofNat 8 k) l by simpa using h 0
  induction l with
  | nil => intro k; rfl
  | cons x l ih =>
    intro k
    simp [bleedFrames, ih, seq_succ, List.zipIdx_cons]

/-- The BLEED frames sent to one monitor (R127). -/
theorem sendBleeds_portD (s : State) (c : CellId) (l : List Bool) :
    (s.sendBleeds c l).link.portD = s.link.portD ++ bleedFrames s.link.seqD (l.map (c, ·))
      ∧ (s.sendBleeds c l).link.seqD = s.link.seqD + BitVec.ofNat 8 l.length := by
  induction l generalizing s with
  | nil => simp [State.sendBleeds, bleedFrames]
  | cons b l ih =>
    obtain ⟨hport, hseq⟩ := ih (s.composeD (bleedFrame c b))
    have hcons : s.sendBleeds c (b :: l) = (s.composeD (bleedFrame c b)).sendBleeds c l := rfl
    rw [hcons, hport, hseq]
    simp [bleedFrames, seq_succ]

/-- The settings that an event's changes of the bleed records send, cell 1's first (R127). -/
def bleedSettings (old mid new : PerCell BleedRecord) : List (CellId × Bool) :=
  (bleedChanges old.one mid.one new.one).map (CellId.one, ·) ++ (bleedChanges old.two mid.two new.two).map (CellId.two, ·)

/-- The bleed records of one event and the frames that its changes send (R127). -/
theorem putBleeds_sent (s : State) (mid new : PerCell BleedRecord) :
    (s.putBleeds mid new).balance = { s.balance with bleeds := new }
      ∧ (s.putBleeds mid new).link.portD
        = s.link.portD ++ bleedFrames s.link.seqD (bleedSettings s.balance.bleeds mid new) := by
  let one := bleedChanges s.balance.bleeds.one mid.one new.one
  let two := bleedChanges s.balance.bleeds.two mid.two new.two
  obtain ⟨hport1, hseq1⟩ := sendBleeds_portD s .one one
  obtain ⟨hport2, -⟩ := sendBleeds_portD (s.sendBleeds .one one) .two two
  have hlink : (s.putBleeds mid new).link = ((s.sendBleeds .one one).sendBleeds .two two).link := by
    simp [State.putBleeds, one, two]
  refine ⟨by simp [State.putBleeds], ?_⟩
  rw [hlink, hport2, hport1, hseq1, List.append_assoc, bleedSettings, bleedFrames_append]
  simp [one, two]

/-- A bleed record switched off (R124). -/
def offRecord (b : BleedRecord) : BleedRecord := { b with on := false, origin := .none }

theorem bothOff_eq (b : BalanceUnit) : b.bothOff = ⟨offRecord b.bleeds.one, offRecord b.bleeds.two⟩ := rfl

theorem bleedChanges_off (b : BleedRecord) :
    bleedChanges b (offRecord b) (offRecord b) = if b.on then [false] else [] := by
  cases h : b.on <;> simp [bleedChanges, offRecord, h]

/-- The frames of the bleeds that go off, cell 1's first (R127). -/
def offFrames (s : State) : List Frame :=
  match s.balance.bleeds.one.on, s.balance.bleeds.two.on with
  | true, true => [bleedFrame .one false s.link.seqD, bleedFrame .two false (s.link.seqD + 1)]
  | true, false => [bleedFrame .one false s.link.seqD]
  | false, true => [bleedFrame .two false s.link.seqD]
  | false, false => []

/-- Every bleed that is on goes off, each with its frame (R127). -/
theorem bleedsOff_sent (s : State) :
    s.bleedsOff.balance = { s.balance with bleeds := ⟨offRecord s.balance.bleeds.one, offRecord s.balance.bleeds.two⟩ }
      ∧ s.bleedsOff.link.portD = s.link.portD ++ offFrames s := by
  obtain ⟨hbal, hport⟩ := putBleeds_sent s s.balance.bothOff s.balance.bothOff
  refine ⟨hbal, ?_⟩
  rw [State.bleedsOff, hport, bleedSettings, bothOff_eq, bleedChanges_off, bleedChanges_off, offFrames]
  cases s.balance.bleeds.one.on <;> cases s.balance.bleeds.two.on <;> rfl

/-! ## What a hand-over's decisions rest on -/

/-- The balance unit of `u` differs from that of `s` in the shuttle alone, on the same port D (R125). -/
structure SameBleeds (s u : State) : Prop where
  bleeds : u.balance.bleeds = s.balance.bleeds
  table : u.balance.table = s.balance.table
  link : u.link = s.link
  cells : u.cells = s.cells

/-- The bleed decision does not read the shuttle (R126). -/
theorem bleedDecision_sameBleeds {s u : State} (h : SameBleeds s u) (r : Summary) (p : Permission) (m : Mode) :
    (u.bleedDecision r p m).balance.bleeds = (s.bleedDecision r p m).balance.bleeds
      ∧ (u.bleedDecision r p m).link.portD = (s.bleedDecision r p m).link.portD := by
  have hstop (c : CellId) : u.bleedStopped r p m c = s.bleedStopped r p m c := by
    unfold State.bleedStopped State.bleedAllowed BalanceUnit.bleedVoltage BalanceUnit.shuttleStop
    rw [h.bleeds, h.table]
  have hstart (mid : PerCell BleedRecord) : u.bleedStarted r p m mid = s.bleedStarted r p m mid := by
    unfold State.bleedStarted State.bleedAllowed BalanceUnit.bleedVoltage BalanceUnit.bleedStart
    rw [h.table]
  simp only [State.bleedDecision, hstop, hstart, putBleeds_sent, h.bleeds, h.link, and_self]

/-- A cell that leads is the fuller one, by the SOC difference (R126, R129). -/
theorem leading_cell {r : Summary} {c : CellId} (h : r.lead c > 0) : r.fuller = c ∧ r.dsoc.natAbs = (r.lead c).toNat := by
  cases c with
  | one =>
    simp only [Summary.lead] at h ⊢
    refine ⟨?_, by omega⟩
    unfold Summary.dsoc at h
    exact if_pos (by omega)
  | two =>
    simp only [Summary.lead] at h ⊢
    refine ⟨?_, by omega⟩
    unfold Summary.dsoc at h
    exact if_neg (by omega)

/-- The automatic start check (R129). -/
theorem startCalled_iff (s : State) (r : Summary) (p : Permission) :
    s.startCalled r p = true
      ↔ (p = .shuttle ∨ p = .any) ∧ s.balance.shuttle.cooldown = none
        ∧ (∀ c, ¬ ((s.balance.bleeds.get c).on = true ∧ (s.balance.bleeds.get c).origin = .host))
        ∧ |(r.soc1 : Int) - r.soc2| ≥ s.balance.shuttleStart := by
  have hcells : (∀ c, ¬ ((s.balance.bleeds.get c).on = true ∧ (s.balance.bleeds.get c).origin = .host))
      ↔ (¬ (s.balance.bleeds.one.on = true ∧ s.balance.bleeds.one.origin = .host))
        ∧ ¬ (s.balance.bleeds.two.on = true ∧ s.balance.bleeds.two.origin = .host) :=
    ⟨fun h => ⟨h .one, h .two⟩, fun h c => by cases c; exacts [h.1, h.2]⟩
  rw [hcells]
  simp [State.startCalled, Summary.dsoc, and_assoc, imp_iff_not_or]

/-- The decision with the shuttle IDLE: a start that is called for, or else the bleed decision (R125, R126, R129). -/
def idleDecision (s : State) (r : Summary) (p : Permission) (m : Mode) : State :=
  if s.startCalled r p then s.autoStart r else s.bleedDecision r p m

theorem autoStart_deferred {s : State} (r : Summary) (h : s.anyBleed = true) : s.autoStart r = s.bleedsOff := by
  simp [State.autoStart, h]

/-- The automatic start, from the cell that leads (R129). -/
theorem autoStart_starts {s : State} {r : Summary} {c : CellId} (h : s.anyBleed = false) (hc : r.lead c > 0) :
    s.autoStart r = s.startShuttle .auto c (r.lead c) ((r.lead c).toNat * s.cells.minFull / 2000) := by
  obtain ⟨hfuller, hamount⟩ := leading_cell hc
  simp [State.autoStart, h, hfuller, shuttleAmount, hamount]

/-- A hand-over's decisions end an ACTIVE shuttle, or leave it, and go on from an IDLE one. -/
theorem decisions_idle {s : State} (r : Summary) (p : Permission) (m : Mode)
    (h : (s.endChecks r p).balance.shuttle.active = false) :
    decisions s r p false m = idleDecision (s.endChecks r p) r p m := by
  simp [decisions, h, idleDecision]

theorem reversed_iff (x : Shuttle) (r : Summary) (stop : Int) :
    reversed x r stop = true ↔ ∃ c, x.source = some c ∧ x.lead > 0 ∧ r.lead c < 0 ∧ r.lead c ≤ -stop := by
  unfold reversed
  cases x.source <;> simp [and_assoc]

theorem sameBleeds_endShuttle {s u : State} (h : SameBleeds s u) (why : EndReason) :
    SameBleeds s (u.endShuttle why) := by
  obtain ⟨hbleeds, htable, hlink, hcells⟩ := h
  constructor <;> simp [hbleeds, htable, hlink, hcells]

theorem endChecks_idle {s : State} (r : Summary) (p : Permission) (h : s.balance.shuttle.active = false) :
    s.endChecks r p = s := by
  simp [State.endChecks, h]

theorem endChecks_reversed {s : State} {r : Summary} (p : Permission) (h : s.balance.shuttle.active = true)
    (hr : reversed s.balance.shuttle r s.balance.shuttleStop = true) : s.endChecks r p = s.endShuttle .done := by
  simp [State.endChecks, h, hr]

/-- Without a reversal an automatic shuttle ends where its permission is lost, and any other goes on (R131). -/
theorem endChecks_permission {s : State} {r : Summary} (p : Permission) (h : s.balance.shuttle.active = true)
    (hr : reversed s.balance.shuttle r s.balance.shuttleStop = false) :
    s.endChecks r p
      = if s.balance.shuttle.origin = .auto ∧ ¬ (p = .shuttle ∨ p = .any) then s.endShuttle (.aborted .permission)
        else s := by
  simp [State.endChecks, h, hr]

/-- The shuttle context with a hand-over's permission and override mark recorded (R125). -/
def markedShuttle (s : State) (p : Permission) (o : Bool) : Shuttle :=
  { s.balance.shuttle with permission := some p, overrideMark := o }

theorem balanceDecision_marked (s : State) (r : Summary) (p : Permission) (o : Bool) (m : Mode) :
    s.balanceDecision r p o m = decisions (withShuttle s (markedShuttle s p o)) r p o m := balanceDecision_eq s r p o m

theorem sameBleeds_marked (s : State) (p : Permission) (o : Bool) : SameBleeds s (withShuttle s (markedShuttle s p o)) :=
  ⟨rfl, rfl, rfl, rfl⟩

/-- The shuttle that an end leaves, with the table's cooldown. -/
theorem endShuttle_marked {s : State} {p : Permission} {o : Bool} (why : EndReason) (h : s.balance.shuttle.active = true) :
    ((withShuttle s (markedShuttle s p o)).endShuttle why).balance.shuttle
      = endedShuttle (markedShuttle s p o) why (if s.balance.cooldownMs = 0 then none else some s.balance.cooldownMs) := by
  rw [endShuttle_ends (s := withShuttle s (markedShuttle s p o)) why h]
  rfl

/-! ## What a hand-over leaves -/

/-- `t` has every bleed of `s` off, with its frames (R125, R129). -/
def SwitchedOff (s t : State) : Prop :=
  (t.anyBleed = false
      ∧ ∀ c, (s.balance.bleeds.get c).on = true →
          t.balance.bleeds.get c
            = if (s.balance.bleeds.get c).on then offRecord (s.balance.bleeds.get c) else s.balance.bleeds.get c)
    ∧ t.link.portD = s.link.portD ++ offFrames s

theorem switchedOff_bleedsOff {s u : State} (h : SameBleeds s u) : SwitchedOff s u.bleedsOff := by
  obtain ⟨hbalance, hport⟩ := bleedsOff_sent u
  rw [h.bleeds] at hbalance
  rw [offFrames, h.bleeds, h.link] at hport
  refine ⟨⟨rfl, fun c hc => ?_⟩, hport⟩
  rw [hbalance, if_pos hc]
  cases c <;> rfl

/-- A start is called for at a hand-over that leaves the context `idle` (R129). -/
def Called (s : State) (r : Summary) (p : Permission) (idle : Shuttle) : Prop :=
  (p = .shuttle ∨ p = .any) ∧ idle.cooldown = none
    ∧ (∀ c, ¬ ((s.balance.bleeds.get c).on = true ∧ (s.balance.bleeds.get c).origin = .host))
    ∧ |(r.soc1 : Int) - r.soc2| ≥ s.balance.shuttleStart

theorem startCalled_called {s u : State} {r : Summary} {p : Permission} (h : SameBleeds s u) :
    u.startCalled r p = true ↔ Called s r p u.balance.shuttle := by
  rw [startCalled_iff, h.bleeds]
  simp only [BalanceUnit.shuttleStart, h.table]
  rfl

/-- The shuttle that an automatic start leaves (R129). -/
def autoShuttle (s : State) (r : Summary) (c : CellId) (idle : Shuttle) : Shuttle :=
  let amount : Nat := (r.lead c).toNat * min (s.cells.capacity .one * 36000000) (s.cells.capacity .two * 36000000) / 2000
  { idle with
    active := true, origin := .auto, source := some c, lead := r.lead c, amount := amount
    remaining := amount, transferred := 0, elapsed := 0, length := s.balance.limitMs }

theorem idleDecision_deferred {s u : State} {r : Summary} {p : Permission} (m : Mode) (h : SameBleeds s u)
    (hc : Called s r p u.balance.shuttle) (hb : s.anyBleed = true) : idleDecision u r p m = u.bleedsOff := by
  have hany : u.anyBleed = true := by rw [State.anyBleed, h.bleeds]; exact hb
  rw [idleDecision, if_pos ((startCalled_called h).mpr hc), autoStart_deferred r hany]

theorem idleDecision_starts {s u : State} {r : Summary} {p : Permission} {c : CellId} (m : Mode) (h : SameBleeds s u)
    (hc : Called s r p u.balance.shuttle) (hb : s.anyBleed = false) (hlead : r.lead c > 0) :
    (idleDecision u r p m).balance.shuttle = autoShuttle s r c u.balance.shuttle
      ∧ (idleDecision u r p m).balance.bleeds = s.balance.bleeds ∧ (idleDecision u r p m).link = s.link := by
  have hany : u.anyBleed = false := by rw [State.anyBleed, h.bleeds]; exact hb
  rw [idleDecision, if_pos ((startCalled_called h).mpr hc), autoStart_starts hany hlead]
  refine ⟨?_, by simp [h.bleeds], by simp [h.link]⟩
  simp only [State.startShuttle, BalanceUnit.limitMs, h.table, h.cells]
  rfl

theorem idleDecision_bleeds {s u : State} {r : Summary} {p : Permission} (m : Mode) (h : SameBleeds s u)
    (hc : ¬ Called s r p u.balance.shuttle) :
    (idleDecision u r p m).balance.shuttle = u.balance.shuttle
      ∧ (idleDecision u r p m).balance.bleeds = (s.bleedDecision r p m).balance.bleeds
      ∧ (idleDecision u r p m).link.portD = (s.bleedDecision r p m).link.portD := by
  rw [idleDecision, if_neg fun hcalled => hc ((startCalled_called h).mp hcalled)]
  exact ⟨by simp, bleedDecision_sameBleeds h r p m⟩

/-- `t` is what the decisions leave of `s` once the shuttle is IDLE with the context `idle` (R125). -/
def Decided (s t : State) (r : Summary) (p : Permission) (m : Mode) (idle : Shuttle) : Prop :=
  (Called s r p idle → s.anyBleed = true → t.balance.shuttle = idle ∧ SwitchedOff s t)
    ∧ (Called s r p idle → s.anyBleed = false → ∀ c, r.lead c > 0 →
        t.balance.shuttle = autoShuttle s r c idle ∧ t.balance.bleeds = s.balance.bleeds ∧ t.link = s.link)
    ∧ (¬ Called s r p idle →
        t.balance.shuttle = idle ∧ t.balance.bleeds = (s.bleedDecision r p m).balance.bleeds
          ∧ t.link.portD = (s.bleedDecision r p m).link.portD)

theorem decided_idleDecision {s u : State} (r : Summary) (p : Permission) (m : Mode) (h : SameBleeds s u) :
    Decided s (idleDecision u r p m) r p m u.balance.shuttle := by
  refine ⟨fun hc hb => ?_, fun hc hb c hlead => idleDecision_starts m h hc hb hlead, idleDecision_bleeds m h⟩
  rw [idleDecision_deferred m h hc hb]
  exact ⟨by simp, switchedOff_bleedsOff h⟩

/-- An override ends an ACTIVE shuttle and sets every bleed off (R125). -/
theorem balanceDecision_override (s : State) (r : Summary) (p : Permission) (m : Mode) :
    SwitchedOff s (s.balanceDecision r p true m)
      ∧ (s.balanceDecision r p true m).balance.shuttle
        = if s.balance.shuttle.active then
            endedShuttle (markedShuttle s p true) (.aborted .override)
              (if s.balance.cooldownMs = 0 then none else some s.balance.cooldownMs)
          else markedShuttle s p true := by
  let u := (withShuttle s (markedShuttle s p true)).endShuttle (.aborted .override)
  have hover : s.balanceDecision r p true m = u.bleedsOff := rfl
  have hshuttle : u.bleedsOff.balance.shuttle = u.balance.shuttle := by simp
  rw [hover, hshuttle]
  refine ⟨switchedOff_bleedsOff (sameBleeds_endShuttle (sameBleeds_marked s p true) _), ?_⟩
  split
  · next h => exact endShuttle_marked _ h
  · next h =>
      exact congrArg (·.balance.shuttle)
        (endShuttle_idle (s := withShuttle s (markedShuttle s p true)) _ (Bool.eq_false_iff.mpr h))

/-- After an end check that ends the shuttle the decisions go on with it IDLE (R125, R131). -/
theorem balanceDecision_ended {s : State} {r : Summary} {p : Permission} (m : Mode) {why : EndReason}
    (h : s.balance.shuttle.active = true)
    (hend : (withShuttle s (markedShuttle s p false)).endChecks r p
      = (withShuttle s (markedShuttle s p false)).endShuttle why) :
    Decided s (s.balanceDecision r p false m) r p m
      (endedShuttle (markedShuttle s p false) why
        (if s.balance.cooldownMs = 0 then none else some s.balance.cooldownMs)) := by
  have hdecided := decided_idleDecision r p m (sameBleeds_endShuttle (sameBleeds_marked s p false) why)
  rw [endShuttle_marked why h, ← hend] at hdecided
  rwa [balanceDecision_marked, decisions_idle]
  rw [hend]
  exact endShuttle_active _ _

/-- An ACTIVE shuttle that no end check ends goes on, and nothing else is decided (R125). -/
theorem balanceDecision_kept {s : State} {r : Summary} {p : Permission} (m : Mode)
    (h : s.balance.shuttle.active = true)
    (hkept : (withShuttle s (markedShuttle s p false)).endChecks r p = withShuttle s (markedShuttle s p false)) :
    s.balanceDecision r p false m = withShuttle s (markedShuttle s p false) := by
  rw [balanceDecision_marked, decisions, if_neg Bool.false_ne_true, hkept]
  exact if_pos h

theorem balanceDecision_idle {s : State} (r : Summary) (p : Permission) (m : Mode)
    (h : s.balance.shuttle.active = false) :
    Decided s (s.balanceDecision r p false m) r p m (markedShuttle s p false) := by
  have hkept := endChecks_idle (s := withShuttle s (markedShuttle s p false)) r p h
  have hdecided := decided_idleDecision r p m (sameBleeds_marked s p false)
  rwa [balanceDecision_marked, decisions_idle r p m (by rw [hkept]; exact h), hkept]

end Sys2Proof.Balancing
end

section
/-! SUPPORT. The BALANCE commands: their arguments, what refuses them, and the setpoint that a command calls for after it has
written the balance unit (R113, R135 to R137). -/

namespace Sys2Proof.Balancing

open Sys2Proof.Machine Sys2Proof.Sequencing Sys2Proof.PowerPath

/-! ## Arguments and refusals -/

theorem cellOf_none {b : Byte} (h1 : b ≠ 1) (h2 : b ≠ 2) : cellOf b = none :=
  (if_neg h1).trans (if_neg h2)

theorem cellOf_some {b : Byte} (h : b = 1 ∨ b = 2) : ∃ k, cellOf b = some k := by
  rcases h with rfl | rfl
  · exact ⟨.one, rfl⟩
  · exact ⟨.two, rfl⟩

theorem cellOf_number {b : Byte} {k : CellId} (h : b.toNat = cellNumber k) : cellOf b = some k := by
  cases k with
  | one =>
    obtain rfl : b = 1 := BitVec.eq_of_toNat_eq h
    rfl
  | two =>
    obtain rfl : b = 2 := BitVec.eq_of_toNat_eq h
    rfl

theorem balanceTaken_iff (s : State) : s.balanceTaken = true ↔ s.op = .run ∧ s.guard.causes = Causes.none := by
  simp [State.balanceTaken, Sequencing.isEmpty_iff]

theorem balanceTaken_refused {s : State} (h : s.op ≠ .run ∨ s.guard.causes ≠ Causes.none) : s.balanceTaken = false := by
  rw [← Bool.not_eq_true, balanceTaken_iff]
  tauto

theorem balanceTaken_entered (s : State) (seq : Byte) (k : HubCommand) :
    (s.entered seq k).balanceTaken = s.balanceTaken := by
  simp [State.balanceTaken]

/-! ## A command that acts with its reservation free -/

/-- A command that finds its reservation free leaves `u`, is answered, and its event ends with the arbiter (R158). -/
theorem hubCommand_actsFree {s u : State} {seq : Byte} (h : s.ready = true) {k : HubCommand} {status : Status}
    {results : List Field} (hp : parseCommand (encodeCommand k) = k)
    (hr : isReset hubAddress (encodeCommand k) = false) (hw : s.blockedOn (s.heldAs seq k .waiting) = none)
    (ha : (s.entered seq k).act (s.heldAs seq k .waiting) k = u.answer (s.heldAs seq k .waiting) status results)
    (hheld : u.cmd.held = (s.entered seq k).cmd.held) :
    s.hubCommand seq k = .next (u.answer (s.heldAs seq k .waiting) status results).arbitrate := by
  have hk := (keepsQueue_of_held hheld).trans (keepsQueue_answer u (s.heldAs seq k .waiting) status results)
  have hnone : (u.answer (s.heldAs seq k .waiting) status results).arbitrate.head = none := by
    rw [arbitrate_head]
    exact hk.head (entered_queue h seq k).2
  rw [hubCommand_ready h hp hr hw, ha, drain_none _ hnone]

/-- With port U busy a command finds the replies as they were. -/
theorem entered_outputs {s : State} (h : s.link.sendingU.isSome) (seq : Byte) (k : HubCommand) :
    (s.entered seq k).link.sendingU.isSome ∧ (s.entered seq k).out.replies = s.out.replies := by
  rw [entered_busy h]
  exact ⟨h, rfl⟩

/-- With the shuttle IDLE no command waits for it. -/
theorem blockedOn_shuttle {s : State} {seq : Byte} {k : HubCommand} (h : s.hubWait (encodeCommand k) = some .shuttle)
    (hidle : s.balance.shuttle.active = false) : s.blockedOn (s.heldAs seq k .waiting) = none := by
  simp [State.blockedOn, State.waitsOn, State.heldAs, h, State.reserved, hidle]

/-- A setpoint called for in RUN rests on the state before the command: what the command wrote of the balance unit, and its
frames, the computation does not read. -/
theorem computedFor_written {s v : State} (hop : v.op = .run) (hcells : v.cells = s.cells) (hguard : v.guard = s.guard)
    (hpath : v.path = s.path) (hnodes : v.cmd.nodes = s.cmd.nodes) : s.computedFor v.callSetpoint s.compute := by
  have hfig : SameFigures { s with balance := v.balance } v :=
    ⟨hcells, by rw [hguard], by rw [hguard], ⟨s.path.ship, hpath⟩, rfl, hnodes⟩
  have hcompute : v.compute = s.compute := (compute_congr hfig).trans rfl
  obtain ⟨hcomp, hcall⟩ := callSetpoint_run v hop
  rw [hcompute] at hcomp hcall
  exact ⟨hcomp, calledFor_from hnodes (by rw [hpath]) (by rw [hpath]) hcall⟩

/-! ## BALANCE SHUTTLE -/

/-- The amount BALANCE SHUTTLE asks for: the one given, or half the difference (R135). -/
def askedAmount (s : State) (given : Option (Word × Byte)) : Nat :=
  match given with
  | some (m, e) => m.toNat * 2 ^ e.toNat
  | none => (s.recordLead .one).natAbs * s.cells.minFull / 2000

theorem hostAmount_zero {s : State} {given : Option (Word × Byte)} (h : askedAmount s given = 0) :
    s.hostAmount given = none := by
  cases given with
  | none => exact if_pos h
  | some x => exact if_pos h

theorem hostAmount_pos {s : State} {given : Option (Word × Byte)} (h : askedAmount s given ≠ 0) :
    s.hostAmount given
      = some (if given.isSome then min (askedAmount s given) s.cells.minFull else askedAmount s given,
          given.isSome && decide (s.cells.minFull < askedAmount s given)) := by
  cases given with
  | none =>
    have hasked : shuttleAmount (s.recordLead .one) s.cells.minFull = askedAmount s none := rfl
    simp [State.hostAmount, hasked, h]
  | some x =>
    have hasked : expand x.1 x.2 = askedAmount s (some x) := rfl
    simp [State.hostAmount, hasked, h]

theorem hostAmount_entered (s : State) (seq : Byte) (k : HubCommand) (given : Option (Word × Byte)) :
    (s.entered seq k).hostAmount given = s.hostAmount given := by
  have hcells : (s.entered seq k).cells = s.cells := by simp
  unfold State.hostAmount State.recordLead State.cell
  rw [hcells]

theorem shuttle_reads (cell : Byte) (given : Option (Word × Byte)) :
    parseCommand (encodeCommand (.shuttle cell given)) = .shuttle cell given
      ∧ isReset hubAddress (encodeCommand (.shuttle cell given)) = false := by
  cases given with
  | none => exact ⟨rfl, rfl⟩
  | some x =>
    refine ⟨?_, rfl⟩
    show HubCommand.shuttle cell (some (wordOf (hiByte x.1) (loByte x.1), x.2)) = _
    rw [wordOf_bytes]

theorem shuttle_waits (s : State) (cell : Byte) (given : Option (Word × Byte)) :
    s.hubWait (encodeCommand (.shuttle cell given)) = some .shuttle := by
  cases given <;> rfl

theorem takeShuttle_badCell {u : State} (c : HeldCommand) {cell : Byte} (given : Option (Word × Byte))
    (h : cellOf cell = none) : u.takeShuttle c cell given = u.answer c .badEntry [] := by
  simp [State.takeShuttle, h]

theorem takeShuttle_outside {u : State} (c : HeldCommand) {cell : Byte} {k : CellId} (given : Option (Word × Byte))
    (hk : cellOf cell = some k) (h : u.balanceTaken = false) : u.takeShuttle c cell given = u.answer c .state [] := by
  simp [State.takeShuttle, hk, h]

theorem takeShuttle_nothing {u : State} (c : HeldCommand) {cell : Byte} {k : CellId} {given : Option (Word × Byte)}
    (hk : cellOf cell = some k) (h : u.balanceTaken = true) (ha : u.hostAmount given = none) :
    u.takeShuttle c cell given = u.answer c .badEntry [] := by
  simp [State.takeShuttle, hk, h, ha]

theorem takeShuttle_starts {u : State} (c : HeldCommand) {cell : Byte} {k : CellId} {given : Option (Word × Byte)}
    {q : Nat} {clamped : Bool} (hk : cellOf cell = some k) (h : u.balanceTaken = true)
    (ha : u.hostAmount given = some (q, clamped)) :
    u.takeShuttle c cell given = (u.hostShuttle k q).answer c (okOr clamped) (u.hostShuttle k q).balance.shuttle.fields := by
  simp [State.takeShuttle, hk, h, ha]

/-- The shuttle the host starts, with the bleeds off and the cooldown cancelled (R135). -/
theorem hostShuttle_balance (s : State) (k : CellId) (q : Nat) :
    (s.hostShuttle k q).balance.shuttle
        = { s.balance.shuttle with
            active := true, origin := .host, source := some k, lead := s.recordLead k, amount := q, remaining := q
            transferred := 0, elapsed := 0, length := s.balance.limitMs, cooldown := none }
      ∧ (s.hostShuttle k q).anyBleed = false ∧ (s.hostShuttle k q).balance.table = s.balance.table := by
  have hbleeds : (s.hostShuttle k q).anyBleed = s.bleedsOff.anyBleed := by simp [State.hostShuttle, State.anyBleed]
  refine ⟨?_, hbleeds.trans (bleedsOff_off s), by simp [State.hostShuttle]⟩
  simp [State.hostShuttle, State.startShuttle, BalanceUnit.limitMs, State.recordLead, State.cell]


/-- A BALANCE SHUTTLE that is taken starts the host's shuttle and calls for a setpoint with it (R113, R135). -/
theorem balanceShuttle_taken {s : State} (seq : Byte) {cell : Byte} {given : Option (Word × Byte)} {k : CellId} {q : Nat}
    {clamped : Bool} (h : s.ready = true) (hidle : s.balance.shuttle.active = false) (hk : cellOf cell = some k)
    (htaken : s.balanceTaken = true) (hamount : s.hostAmount given = some (q, clamped)) :
    ∃ t, exec (.balanceShuttle seq cell given) s = .next t
      ∧ t.balance.shuttle
          = { s.balance.shuttle with
              active := true, origin := .host, source := some k
              lead := ((s.cell k).soc : Int) - (s.cell (otherCell k)).soc
              amount := q, remaining := q, transferred := 0, elapsed := 0, length := s.balance.limitMs, cooldown := none }
      ∧ t.anyBleed = false ∧ s.sameTables t ∧ t.op = .run ∧ t.seqr = s.seqr ∧ t.guard = s.guard ∧ t.hold = s.hold
      ∧ t.path.handOver = s.path.handOver ∧ t.path.present = s.path.present ∧ s.computedFor t s.compute
      ∧ (s.link.sendingU.isSome → s.out.replies = [] →
          t.out.replies = [⟨some s.freePlace, okOr clamped, seq, t.balance.shuttle.fields⟩]) := by
  let e := s.entered seq (.shuttle cell given)
  let c := s.heldAs seq (.shuttle cell given) .waiting
  obtain ⟨hp, hr⟩ := shuttle_reads cell given
  obtain ⟨hop, -⟩ := (balanceTaken_iff s).mp htaken
  have ht := takeShuttle_starts (u := e) c hk ((balanceTaken_entered ..).trans htaken)
    ((hostAmount_entered ..).trans hamount)
  have hcore := sameCore_answered (e.hostShuttle k q) c (okOr clamped) (e.hostShuttle k q).balance.shuttle.fields
  obtain ⟨hshuttle, hoff, -⟩ := hostShuttle_balance e k q
  have hlead : e.recordLead k = ((s.cell k).soc : Int) - (s.cell (otherCell k)).soc := by
    simp [e, State.recordLead, State.cell]
  rw [(sameCore_entered s seq _).balance, hlead] at hshuttle
  refine ⟨_, hubCommand_actsFree h hp hr (blockedOn_shuttle (shuttle_waits s cell given) hidle) ht
      (by simp [State.hostShuttle, e]), (congrArg BalanceUnit.shuttle hcore.balance).trans hshuttle, ?_,
    by simp [State.sameTables, State.hostShuttle, e], by simp [State.hostShuttle, e, hop],
    by simp [State.hostShuttle, e], by simp [State.hostShuttle, e], by simp [State.hostShuttle, e],
    by simp [State.hostShuttle, e], by simp [State.hostShuttle, e], ?_, fun hsending hempty => ?_⟩
  · rw [State.anyBleed, hcore.balance]
    exact hoff
  · refine computedFor_to hcore (computedFor_written ?_ ?_ ?_ ?_ ?_) <;> simp [e, hop]
  · obtain ⟨hbusy, hqueue⟩ := entered_outputs hsending seq (.shuttle cell given)
    have hreplies : (e.hostShuttle k q).out.replies = [] := by simp [State.hostShuttle, e, hqueue, hempty]
    rw [answered_replies (by simpa [State.hostShuttle] using hbusy), hreplies, hcore.balance]
    rfl

/-- Settles O37: the decisions of a hand-over one after the other, and the start the host asks for. -/
theorem shuttleStarted : Obligations.ShuttleStarted := by
  refine ⟨fun s r p isOverride m => ?_, fun s seq cell given h hidle => ?_⟩
  · intro t x y permitted ended isReversed off allOff frames withIdle
    have hreversed : reversed y r s.balance.shuttleStop = true ↔ isReversed := reversed_iff ..
    have hends (ha : x.active = true) (hr : ¬ isReversed) :=
      endChecks_permission (s := withShuttle s y) (r := r) p ha (Bool.eq_false_iff.mpr (mt hreversed.mp hr))
    refine ⟨by simp [t, State.sameTables], by simp [t], by simp [t], by simp [t], by simp [t], by simp [t], by simp [t],
      by simp [t], fun ho => ?_, fun ho ha hr => ?_, fun ho ha hr hauto hperm => ?_, fun ho ha hr hkeep => ?_,
      fun ho ha => ?_⟩ <;> subst ho
    · obtain ⟨⟨hall, hport⟩, hshuttle⟩ := balanceDecision_override s r p m
      exact ⟨hall, hport, hshuttle⟩
    · exact balanceDecision_ended m ha (endChecks_reversed p ha (hreversed.mpr hr))
    · exact balanceDecision_ended m ha ((hends ha hr).trans (if_pos ⟨hauto, hperm⟩))
    · refine balanceDecision_kept m ha ((hends ha hr).trans (if_neg ?_))
      rintro ⟨hauto, hperm⟩
      exact hkeep.elim (absurd hauto) hperm
    · exact balanceDecision_idle r p m ha
  · intro full dsoc asked refused
    obtain ⟨hp, hr⟩ := shuttle_reads cell given
    let e := s.entered seq (.shuttle cell given)
    let c := s.heldAs seq (.shuttle cell given) .waiting
    have hasked : askedAmount s given = asked := by cases given <;> rfl
    have hrefused {status : Status} (ht : e.takeShuttle c cell given = e.answer c status []) : refused status :=
      hubCommand_answers h hp hr (blockedOn_shuttle (shuttle_waits s cell given) hidle) rfl ht
    have htaken (hop : s.op = .run) (hnone : s.guard.causes = Causes.none) : s.balanceTaken = true :=
      (balanceTaken_iff s).mpr ⟨hop, hnone⟩
    refine ⟨fun h1 h2 => ?_, fun hcell hout => ?_, fun hcell hop hnone hzero => ?_, fun k hcell hop hnone hpos => ?_⟩
    · exact hrefused (takeShuttle_badCell c given (cellOf_none h1 h2))
    · obtain ⟨k, hk⟩ := cellOf_some hcell
      exact hrefused (takeShuttle_outside c given hk ((balanceTaken_entered ..).trans (balanceTaken_refused hout)))
    · obtain ⟨k, hk⟩ := cellOf_some hcell
      exact hrefused (takeShuttle_nothing c hk ((balanceTaken_entered ..).trans (htaken hop hnone))
        ((hostAmount_entered ..).trans (hostAmount_zero (hasked.trans hzero))))
    · have hamount := hostAmount_pos (s := s) (given := given) (by rw [hasked]; exact hpos)
      rw [hasked] at hamount
      obtain ⟨t, ht, hshuttle, hoff, htables, hop', hseqr, hguard, hhold, hover, hpresent, hcomputed, hreplies⟩ :=
        balanceShuttle_taken seq h hidle (cellOf_number hcell) (htaken hop hnone) hamount
      refine ⟨t, ht, hshuttle, hoff, htables, hop', hseqr, hguard, hhold, hover, hpresent, hcomputed,
        fun hsending hempty => ?_⟩
      have hstatus : okOr (given.isSome && decide (full < asked)) = if given.isSome ∧ full < asked then .clamped else .ok := by
        simp [okOr]
      rw [← hstatus]
      exact hreplies hsending hempty

end Sys2Proof.Balancing
end

section
/-! SUPPORT. The bleeds: which the bleed decision of a hand-over switches off and on, with the frames it sends, and the actions
of BALANCE BLEED and BALANCE STOP (R126 to R128, R133, R136, R137). -/

namespace Sys2Proof.Balancing

open Sys2Proof.Machine Sys2Proof.Sequencing Sys2Proof.PowerPath

/-! ## The bleed decision -/

/-- The bleed decision's conditions of permission, mode and voltage for a cell (R126). -/
def Allowed (s : State) (r : Summary) (p : Permission) (m : Mode) (c : CellId) : Prop :=
  (p = .bleed ∨ p = .any) ∧ m = .charge ∧ r.voltage c ≥ s.balance.bleedVoltage

/-- An AUTO bleed whose conditions have gone (R126). -/
def Stops (s : State) (r : Summary) (p : Permission) (m : Mode) (c : CellId) : Prop :=
  (s.balance.bleeds.get c).on = true ∧ (s.balance.bleeds.get c).origin = .auto
    ∧ (¬ Allowed s r p m c ∨ r.lead c ≤ s.balance.shuttleStop)

/-- A bleed that the decision leaves on. -/
def Left (s : State) (r : Summary) (p : Permission) (m : Mode) (c : CellId) : Prop :=
  (s.balance.bleeds.get c).on = true ∧ ¬ Stops s r p m c

/-- With no bleed left on, the cell that leads far enough (R126). -/
def Starts (s : State) (r : Summary) (p : Permission) (m : Mode) (c : CellId) : Prop :=
  ¬ Left s r p m .one ∧ ¬ Left s r p m .two ∧ r.lead c > 0 ∧ Allowed s r p m c ∧ r.lead c ≥ s.balance.bleedStart

section Decision

variable {s : State} {r : Summary} {p : Permission} {m : Mode} {c : CellId}

theorem bleedAllowed_iff : s.bleedAllowed r p m c = true ↔ Allowed s r p m c := by
  simp [State.bleedAllowed, Allowed, and_assoc]

theorem bleedStopped_stops (h : Stops s r p m c) : s.bleedStopped r p m c = offRecord (s.balance.bleeds.get c) := by
  obtain ⟨hon, horigin, hcond⟩ := h
  rw [← bleedAllowed_iff, Bool.not_eq_true] at hcond
  exact if_pos ⟨hon, horigin, hcond⟩

theorem bleedStopped_stays (h : ¬ Stops s r p m c) : s.bleedStopped r p m c = s.balance.bleeds.get c := by
  refine if_neg fun ⟨hon, horigin, hcond⟩ => h ⟨hon, horigin, ?_⟩
  rwa [← bleedAllowed_iff, Bool.not_eq_true]

theorem bleedStopped_on : (s.bleedStopped r p m c).on = true ↔ Left s r p m c := by
  by_cases h : Stops s r p m c
  · simp [bleedStopped_stops h, offRecord, Left, h]
  · simp [bleedStopped_stays h, Left, h]

/-- Both records after the switching off (R126). -/
def stoppedBleeds (s : State) (r : Summary) (p : Permission) (m : Mode) : PerCell BleedRecord :=
  ⟨s.bleedStopped r p m .one, s.bleedStopped r p m .two⟩

theorem stoppedBleeds_get : (stoppedBleeds s r p m).get c = s.bleedStopped r p m c := by
  cases c <;> rfl

theorem lead_pos_iff : r.lead c > 0 ↔ r.fuller = c ∧ r.soc1 ≠ r.soc2 := by
  cases c <;> simp [Summary.lead, Summary.dsoc, Summary.fuller] <;> omega

/-- The cell that leads far enough is the fuller one, where the records differ and none is left on. -/
theorem starts_iff :
    Starts s r p m c
      ↔ c = r.fuller ∧ (stoppedBleeds s r p m).one.on = false ∧ (stoppedBleeds s r p m).two.on = false
        ∧ r.soc1 ≠ r.soc2 ∧ s.bleedAllowed r p m r.fuller = true ∧ r.lead r.fuller ≥ s.balance.bleedStart := by
  have hoff (k : CellId) : (s.bleedStopped r p m k).on = false ↔ ¬ Left s r p m k := by
    rw [← bleedStopped_on, Bool.not_eq_true]
  simp only [Starts, stoppedBleeds, hoff, lead_pos_iff, bleedAllowed_iff]
  constructor
  · rintro ⟨h1, h2, ⟨rfl, hne⟩, hallowed, hlead⟩
    exact ⟨rfl, h1, h2, hne, hallowed, hlead⟩
  · rintro ⟨rfl, h1, h2, hne, hallowed, hlead⟩
    exact ⟨h1, h2, ⟨rfl, hne⟩, hallowed, hlead⟩

theorem bleedStarted_starts (h : Starts s r p m c) :
    (s.bleedStarted r p m (stoppedBleeds s r p m)).get c = (s.bleedStopped r p m c).setTo true .auto := by
  obtain ⟨rfl, hcond⟩ := starts_iff.mp h
  rw [State.bleedStarted, if_pos hcond, ← stoppedBleeds_get]
  cases r.fuller <;> rfl

theorem bleedStarted_stays (h : ¬ Starts s r p m c) :
    (s.bleedStarted r p m (stoppedBleeds s r p m)).get c = s.bleedStopped r p m c := by
  rw [State.bleedStarted, ← stoppedBleeds_get]
  split
  · next hcond =>
    have hother : c ≠ r.fuller := fun hc => h (starts_iff.mpr ⟨hc, hcond⟩)
    revert hother
    cases c <;> cases r.fuller <;> simp [PerCell.get, PerCell.set]
  · rfl

theorem bleedDecision_eq :
    s.bleedDecision r p m
      = s.putBleeds (stoppedBleeds s r p m) (s.bleedStarted r p m (stoppedBleeds s r p m)) := rfl

/-- The settings that the decision sends to one monitor: off, on, or off and on again (R127). -/
def decidedSettings (s : State) (r : Summary) (p : Permission) (m : Mode) (c : CellId) : List Bool :=
  bleedChanges (s.balance.bleeds.get c) (s.bleedStopped r p m c)
    ((s.bleedStarted r p m (stoppedBleeds s r p m)).get c)

theorem decidedSettings_cases :
    (Stops s r p m c → Starts s r p m c → decidedSettings s r p m c = [false, true])
      ∧ (Stops s r p m c → ¬ Starts s r p m c → decidedSettings s r p m c = [false])
      ∧ (¬ Stops s r p m c → Starts s r p m c → decidedSettings s r p m c = [true])
      ∧ (¬ Stops s r p m c → ¬ Starts s r p m c → decidedSettings s r p m c = []) := by
  refine ⟨fun hstop hstart => ?_, fun hstop hstart => ?_, fun hstop hstart => ?_, fun hstop hstart => ?_⟩
  · rw [decidedSettings, bleedStarted_starts hstart, bleedStopped_stops hstop]
    simp [bleedChanges, BleedRecord.setTo, offRecord, hstop.1]
  · rw [decidedSettings, bleedStarted_stays hstart, bleedStopped_stops hstop]
    simp [bleedChanges, offRecord, hstop.1]
  · have hoff : (s.balance.bleeds.get c).on = false := by
      rw [← Bool.not_eq_true]
      intro hon
      obtain ⟨h1, h2, -⟩ := hstart
      cases c
      exacts [h1 ⟨hon, hstop⟩, h2 ⟨hon, hstop⟩]
    rw [decidedSettings, bleedStarted_starts hstart, bleedStopped_stays hstop]
    simp [bleedChanges, BleedRecord.setTo, hoff]
  · rw [decidedSettings, bleedStarted_stays hstart, bleedStopped_stays hstop]
    simp [bleedChanges]

theorem bleedDecision_bleeds :
    (Starts s r p m c →
        (s.bleedDecision r p m).balance.bleeds.get c = { s.balance.bleeds.get c with on := true, origin := .auto })
      ∧ (¬ Starts s r p m c → Stops s r p m c →
          (s.bleedDecision r p m).balance.bleeds.get c = offRecord (s.balance.bleeds.get c))
      ∧ (¬ Starts s r p m c → ¬ Stops s r p m c →
          (s.bleedDecision r p m).balance.bleeds.get c = s.balance.bleeds.get c) := by
  obtain ⟨hbal, -⟩ := putBleeds_sent s (stoppedBleeds s r p m) (s.bleedStarted r p m (stoppedBleeds s r p m))
  rw [bleedDecision_eq, hbal]
  refine ⟨fun hstart => ?_, fun hstart hstop => ?_, fun hstart hstop => ?_⟩
  · rw [bleedStarted_starts hstart]
    by_cases hstop : Stops s r p m c
    · rw [bleedStopped_stops hstop]
      rfl
    · rw [bleedStopped_stays hstop]
      rfl
  · exact (bleedStarted_stays hstart).trans (bleedStopped_stops hstop)
  · exact (bleedStarted_stays hstart).trans (bleedStopped_stays hstop)

theorem bleedDecision_sent :
    (s.bleedDecision r p m).link.portD
      = s.link.portD ++ bleedFrames s.link.seqD
          ((decidedSettings s r p m .one).map (CellId.one, ·) ++ (decidedSettings s r p m .two).map (CellId.two, ·)) :=
  (putBleeds_sent s _ _).2

end Decision

/-! ## A sample's bleeding flag -/

/-- A bleeding flag that disagrees counts, and the record's frame is repeated (R127). -/
theorem compareBleed_disagrees {s : State} {c : CellId} {flag : Bool} (h : flag ≠ (s.balance.bleeds.get c).on) :
    s.compareBleed c flag
      = { s.composeD (bleedFrame c (s.balance.bleeds.get c).on) with
          balance.bleeds :=
            s.balance.bleeds.set c
              { s.balance.bleeds.get c with disagreements := bump (s.balance.bleeds.get c).disagreements } } :=
  if_neg h

/-! ## BALANCE BLEED -/

theorem settingOf_none {b : Byte} (h0 : b ≠ 0) (h1 : b ≠ 1) : settingOf b = none :=
  (if_neg h0).trans (if_neg h1)

theorem takeBleed_badEntry {u : State} (c : HeldCommand) {cell setting : Byte}
    (h : cellOf cell = none ∨ settingOf setting = none) : u.takeBleed c cell setting = u.answer c .badEntry [] := by
  rcases h with h | h
  · simp [State.takeBleed, h]
  · simp [State.takeBleed, h]

section Taken

variable {u : State} (c : HeldCommand) {cell setting : Byte} {k : CellId} {on : Bool}

theorem takeBleed_outside (hk : cellOf cell = some k) (hs : settingOf setting = some on) (h : u.balanceTaken = false) :
    u.takeBleed c cell setting = u.answer c .state [] := by
  simp [State.takeBleed, hk, hs, h]

theorem takeBleed_active (hk : cellOf cell = some k) (hs : settingOf setting = some true) (h : u.balanceTaken = true)
    (ha : u.balance.shuttle.active = true) :
    u.takeBleed c cell setting = u.answer c .state u.balance.shuttle.fields := by
  simp [State.takeBleed, hk, hs, h, ha]

/-- BALANCE BLEED that is taken sets the records for the host (R136). -/
theorem takeBleed_sets (hk : cellOf cell = some k) (hs : settingOf setting = some on) (h : u.balanceTaken = true)
    (ha : ¬ (on = true ∧ u.balance.shuttle.active = true)) :
    u.takeBleed c cell setting
      = State.answer (u.putBleeds (u.balance.hostBleeds k on) (u.balance.hostBleeds k on)) c .ok
          (u.putBleeds (u.balance.hostBleeds k on) (u.balance.hostBleeds k on)).balance.bleedFields := by
  simp only [State.takeBleed, hk, hs, h, if_neg ha]
  rfl

end Taken

theorem hostBleeds_on (b : BalanceUnit) (k : CellId) :
    (b.hostBleeds k true).get k = { b.bleeds.get k with on := true, origin := .host }
      ∧ (b.hostBleeds k true).get (otherCell k) = offRecord (b.bleeds.get (otherCell k)) := by
  cases k <;> exact ⟨rfl, rfl⟩

theorem hostBleeds_off (b : BalanceUnit) (k : CellId) :
    (b.hostBleeds k false).get k = offRecord (b.bleeds.get k)
      ∧ (b.hostBleeds k false).get (otherCell k) = b.bleeds.get (otherCell k)
      ∧ bleedSettings b.bleeds (b.hostBleeds k false) (b.hostBleeds k false)
        = if (b.bleeds.get k).on then [(k, false)] else [] := by
  have hsame (x : BleedRecord) : bleedChanges x x x = [] := by simp [bleedChanges]
  cases k with
  | one =>
    refine ⟨rfl, rfl, ?_⟩
    show (bleedChanges b.bleeds.one (offRecord b.bleeds.one) (offRecord b.bleeds.one)).map _
      ++ (bleedChanges b.bleeds.two b.bleeds.two b.bleeds.two).map _ = _
    rw [bleedChanges_off, hsame]
    cases h : b.bleeds.one.on <;> simp [PerCell.get, h]
  | two =>
    refine ⟨rfl, rfl, ?_⟩
    show (bleedChanges b.bleeds.one b.bleeds.one b.bleeds.one).map _
      ++ (bleedChanges b.bleeds.two (offRecord b.bleeds.two) (offRecord b.bleeds.two)).map _ = _
    rw [bleedChanges_off, hsame]
    cases h : b.bleeds.two.on <;> simp [PerCell.get, h]

/-- A BALANCE BLEED that is taken writes both bleed records, sends the frames of what changed, and changes nothing else but the
command queue and the replies (R127, R136). -/
theorem balanceBleed_taken {s : State} (seq : Byte) {cell setting : Byte} {k : CellId} {on : Bool} (h : s.ready = true)
    (hk : cellOf cell = some k) (hs : settingOf setting = some on) (htaken : s.balanceTaken = true)
    (hfree : ¬ (on = true ∧ s.balance.shuttle.active = true)) :
    ∃ t, exec (.balanceBleed seq cell setting) s = .next t
      ∧ t.balance = { s.balance with bleeds := s.balance.hostBleeds k on }
      ∧ t.link.portD = s.link.portD
          ++ bleedFrames s.link.seqD (bleedSettings s.balance.bleeds (s.balance.hostBleeds k on) (s.balance.hostBleeds k on))
      ∧ t.op = s.op ∧ t.cells = s.cells ∧ t.seqr = s.seqr ∧ t.guard = s.guard ∧ t.path = s.path ∧ t.hold = s.hold
      ∧ t.gate = s.gate ∧ t.cmd.nodes = s.cmd.nodes := by
  let e := s.entered seq (.bleed cell setting)
  let c := s.heldAs seq (.bleed cell setting) .waiting
  have hentered := sameCore_entered s seq (.bleed cell setting)
  have hseq : e.link.seqD = s.link.seqD := by simp [e]
  have ht := takeBleed_sets c hk hs ((balanceTaken_entered s seq (.bleed cell setting)).trans htaken)
    (by rw [hentered.balance]; exact hfree)
  rw [hentered.balance] at ht
  let new := s.balance.hostBleeds k on
  obtain ⟨hbalance, hport⟩ := putBleeds_sent e new new
  rw [hentered.balance] at hbalance hport
  rw [hentered.portD, hseq] at hport
  have hcore := sameCore_answered (e.putBleeds new new) c .ok (e.putBleeds new new).balance.bleedFields
  exact ⟨_, hubCommand_actsFree h rfl rfl (blockedOn_free rfl) ht (by simp), hcore.balance.trans hbalance,
    hcore.portD.trans hport, by simp, by simp, by simp, by simp, by simp, by simp, by simp, by simp⟩

/-! ## BALANCE STOP -/

theorem takeBalanceStop_outside {u : State} (c : HeldCommand) (h : u.balanceTaken = false) :
    u.takeBalanceStop c = u.answer c .state [] := by
  simp [State.takeBalanceStop, h]

theorem takeBalanceStop_taken {u : State} (c : HeldCommand) (h : u.balanceTaken = true) :
    u.takeBalanceStop c
      = u.stopBalancing.answer c .ok [.mark u.balance.shuttle.active, .mark u.anyBleed] := by
  simp [State.takeBalanceStop, h]

/-- With an ACTIVE shuttle BALANCE STOP calls for a setpoint (R113, R137). -/
theorem stopBalancing_active {s : State} (h : s.balance.shuttle.active = true) :
    s.stopBalancing = (s.endBalancing .command).callSetpoint := if_pos h

theorem stopBalancing_idle {s : State} (h : s.balance.shuttle.active = false) :
    s.stopBalancing = s.endBalancing .command := if_neg (by simp [h])

/-- The balance unit after BALANCE STOP (R133, R137). -/
theorem stopBalancing_balance (s : State) : s.stopBalancing.balance = (s.endBalancing .command).balance := by
  simp only [State.stopBalancing]
  split
  · simp
  · rfl

@[simp] theorem stopBalancing_frame (s : State) :
    s.stopBalancing.rst = s.rst ∧ s.stopBalancing.fold = s.fold ∧ s.stopBalancing.op = s.op
      ∧ s.stopBalancing.routes = s.routes ∧ s.stopBalancing.cells = s.cells ∧ s.stopBalancing.seqr = s.seqr
      ∧ s.stopBalancing.guard = s.guard ∧ s.stopBalancing.hold = s.hold
      ∧ s.stopBalancing.path.derate = s.path.derate ∧ s.stopBalancing.path.handOver = s.path.handOver
      ∧ s.stopBalancing.cmd.held = s.cmd.held ∧ s.stopBalancing.link.sendingU = s.link.sendingU
      ∧ s.stopBalancing.out.replies = s.out.replies ∧ s.stopBalancing.balance.table = s.balance.table := by
  simp only [State.stopBalancing]
  split <;> simp

theorem endBalancing_shuttle (s : State) (why : AbortReason) :
    (s.endBalancing why).balance.shuttle
      = if s.balance.shuttle.active then endedShuttle s.balance.shuttle (.aborted why) s.balance.cooldownLoad
        else s.balance.shuttle := by
  have hoff : (s.endBalancing why).balance.shuttle = (s.endShuttle (.aborted why)).balance.shuttle := by
    simp [State.endBalancing]
  rw [hoff]
  split
  · next h => simp [endShuttle_ends _ h, withShuttle]
  · next h => rw [endShuttle_idle _ (Bool.eq_false_iff.mpr h)]


/-- BALANCE STOP that is taken (R137). -/
theorem balanceStop_taken {s : State} (seq : Byte) (h : s.ready = true) (htaken : s.balanceTaken = true) :
    exec (.balanceStop seq) s
      = .next ((s.entered seq .balanceStop).stopBalancing.answer (s.heldAs seq .balanceStop .waiting) .ok
          [.mark s.balance.shuttle.active, .mark s.anyBleed]).arbitrate := by
  have hbalance := (sameCore_entered s seq .balanceStop).balance
  have ht := takeBalanceStop_taken (s.heldAs seq .balanceStop .waiting)
    ((balanceTaken_entered s seq .balanceStop).trans htaken)
  rw [State.anyBleed, hbalance] at ht
  exact hubCommand_actsFree h rfl rfl (blockedOn_free rfl) ht (by simp)

/-- Settles O38: each bleed decision by its conditions, and each BALANCE action by its refusals and its effect. -/
theorem bleedAndStop : Obligations.BleedAndStop := by
  refine ⟨fun s r p m => ?_, fun s c flag => ?_, fun s seq cell setting h => ?_⟩
  · refine ⟨fun c => bleedDecision_bleeds, ⟨decidedSettings s r p m .one, decidedSettings s r p m .two, ?_, ?_⟩,
      by simp [State.sameTables]⟩
    · rintro c l (⟨rfl, rfl⟩ | ⟨rfl, rfl⟩) <;> exact decidedSettings_cases
    · rw [bleedFrames_zipIdx]
      exact bleedDecision_sent
  · refine ⟨fun hflag => if_pos hflag, fun hflag => ?_⟩
    rw [compareBleed_disagrees hflag]
    simp [State.sameTables, bump]
  · have hsetting (hset : setting = 0 ∨ setting = 1) : ∃ on, settingOf setting = some on := by
      rcases hset with rfl | rfl
      exacts [⟨false, rfl⟩, ⟨true, rfl⟩]
    have hanswers {status : Status} {results : List Field}
        (ht : (s.entered seq (.bleed cell setting)).takeBleed (s.heldAs seq (.bleed cell setting) .waiting) cell setting
          = (s.entered seq (.bleed cell setting)).answer (s.heldAs seq (.bleed cell setting) .waiting) status results) :
        exec (.balanceBleed seq cell setting) s = .next (s.replied seq (.bleed cell setting) status results) :=
      hubCommand_answers h rfl rfl (blockedOn_free rfl) rfl ht
    have hnot (k : HubCommand) (hout : s.op ≠ .run ∨ s.guard.causes ≠ Causes.none) :
        (s.entered seq k).balanceTaken = false := (balanceTaken_entered ..).trans (balanceTaken_refused hout)
    have htaken (hop : s.op = .run) (hnone : s.guard.causes = Causes.none) : s.balanceTaken = true :=
      (balanceTaken_iff s).mpr ⟨hop, hnone⟩
    refine ⟨fun hbad => hanswers (takeBleed_badEntry _ ?_), fun hcell hset hout => ?_, fun hcell hset hop hnone ha => ?_,
      fun k hk hop hnone hcond => ?_, fun hout => ?_, fun hop hnone => ?_⟩
    · exact hbad.imp (fun ⟨h1, h2⟩ => cellOf_none h1 h2) (fun ⟨h0, h1⟩ => settingOf_none h0 h1)
    · obtain ⟨k, hk⟩ := cellOf_some hcell
      obtain ⟨on, hon⟩ := hsetting hset
      exact hanswers (takeBleed_outside _ hk hon (hnot _ hout))
    · obtain ⟨k, hk⟩ := cellOf_some hcell
      obtain rfl := hset
      have hbalance := (sameCore_entered s seq (.bleed cell 1)).balance
      have ht := takeBleed_active (s.heldAs seq (.bleed cell 1) .waiting) (setting := 1) hk rfl
        ((balanceTaken_entered s seq (.bleed cell 1)).trans (htaken hop hnone)) (by rw [hbalance]; exact ha)
      rw [hbalance] at ht
      exact hanswers ht
    · rcases hcond with ⟨rfl, hidle⟩ | rfl
      · obtain ⟨t, ht, hbalance, -, hrest⟩ := balanceBleed_taken seq (setting := 1) h (cellOf_number hk) rfl
          (htaken hop hnone) (by simp [hidle])
        refine ⟨t, ht, fun _ => ?_, fun h0 => absurd h0 (by decide), by rw [hbalance], by rw [hbalance], hrest⟩
        rw [hbalance]
        exact hostBleeds_on s.balance k
      · obtain ⟨t, ht, hbalance, hport, hrest⟩ := balanceBleed_taken seq (setting := 0) h (cellOf_number hk) rfl
          (htaken hop hnone) (by simp)
        obtain ⟨hcell, hother, hsettings⟩ := hostBleeds_off s.balance k
        refine ⟨t, ht, fun h1 => absurd h1 (by decide), fun _ => ?_, by rw [hbalance], by rw [hbalance], hrest⟩
        rw [hbalance, hport, hsettings]
        refine ⟨hcell, hother, fun hon => ?_, fun hon => ?_⟩
        · rw [if_pos hon]
          rfl
        · rw [if_neg (by simp [hon])]
          exact List.append_nil _
    · exact hubCommand_answers h rfl rfl (blockedOn_free rfl) rfl (takeBalanceStop_outside _ (hnot _ hout))
    · let e := s.entered seq .balanceStop
      let results : List Field := [.mark s.balance.shuttle.active, .mark s.anyBleed]
      have hentered := sameCore_entered s seq .balanceStop
      have hcore := sameCore_answered e.stopBalancing (s.heldAs seq .balanceStop .waiting) .ok results
      obtain ⟨hactive, hoff, -⟩ := endBalancing_off e .command
      have hshuttle := endBalancing_shuttle e .command
      rw [← stopBalancing_balance, ← hcore.balance, hentered.balance] at hshuttle
      refine ⟨_, balanceStop_taken seq h (htaken hop hnone), ?_, ?_, by simp [State.sameTables], by simp [hop], by simp,
        by simp, by simp, by simp, fun ha => ?_, fun ha => ?_, fun hsending hempty => ?_⟩
      · rw [hcore.balance, stopBalancing_balance]
        exact hactive
      · rw [State.anyBleed, hcore.balance, stopBalancing_balance]
        exact hoff
      · rw [if_pos ha] at hshuttle
        have hcalled := stopBalancing_active (s := e) (by rw [hentered.balance]; exact ha)
        refine ⟨congrArg Shuttle.endReason hshuttle, congrArg Shuttle.lastTransferred hshuttle,
          congrArg Shuttle.cooldown hshuttle, computedFor_to hcore ?_⟩
        rw [hcalled]
        refine computedFor_written ?_ ?_ ?_ ?_ ?_ <;> simp [e, hop]
      · rw [if_neg (by simp [ha])] at hshuttle
        have hended := stopBalancing_idle (s := e) (by rw [hentered.balance]; exact ha)
        refine ⟨hshuttle, ?_, ?_⟩
        · rw [hcore.path, hended]
          simp [e]
        · rw [hcore.gate, hended]
          simp [e]
      · obtain ⟨hbusy, hqueue⟩ := entered_outputs hsending seq .balanceStop
        rw [answered_replies (by simpa [e] using hbusy)]
        simp [hqueue, hempty, State.heldAs]

end Sys2Proof.Balancing
end

section
/-! SUPPORT. A law of the hub's blocks across a step: every step is made of the events of the table, so a law that each event
keeps is kept by every step (R155 to R165, R180, R185). -/

namespace Sys2Proof.Events

open Sys2Proof.Machine

/-- A law of the hub's blocks that each event keeps. It does not rest on the ports, the output queues and the command unit, whose
work (acceptance, issue, the arbiter) is therefore none of its concern. -/
structure KeptByEvents (P : State → Prop) : Prop where
  blocks : ∀ {s t : State}, s.sameBlocks t → P s → P t
  powerOn : ∀ {s : State}, P s → P { State.reset with pending := s.pending, fold := s.fold }
  release : ∀ {s : State}, P s → P (State.callSetpoint { s with rst := false })
  reset : ∀ {s : State} (seq : Byte), P s → P (s.takeReset seq)
  act : ∀ {s : State} (c : HeldCommand) (k : HubCommand), P s → P (s.act c k)
  badFrame : ∀ {s : State}, P s → P s.badFrameD
  goodFrame : ∀ {s : State}, P s → P s.goodFrameD
  sample : ∀ {s : State} (c : CellId) (f : SampleFrame) (fold : Bool), P s → P (State.routeSample { s with fold := fold } c f)
  input : ∀ {s : State} (f : InputFrame), P s → P (s.routeInput f)
  stage : ∀ {s : State} (f : StageFrame), P s → P (s.routeStage f)
  nodeReply : ∀ {s : State} (n : NodeId) (dest : Address) (seq : Byte) (payload : List Byte),
    P s → P (s.takeNodeReply n dest seq payload)
  nodeTimeout : ∀ {s : State} (n : NodeId), P s → P (s.expireNode n)
  answerTimeout : ∀ {s : State}, P s → P s.expireAnswer
  staleness : ∀ {s : State} (x : TimedRecord), P s → P (s.expireStaleness x)
  rest : ∀ {s : State} (c : CellId), P s → P (s.expireRest c)
  dwell : ∀ {s : State}, P s → P s.expireDwell
  timeLimit : ∀ {s : State}, P s → P s.expireTimeLimit
  cooldown : ∀ {s : State}, P s → P s.expireCooldown
  tick : ∀ {s : State}, P s → P s.tick

/-- `o` is a next state in which `P` holds. -/
def EndsIn (P : State → Prop) (o : Host.Outcome State Fault Refusal) : Prop := ∃ t, o = .next t ∧ P t

namespace KeptByEvents

variable {P : State → Prop} (h : KeptByEvents P) {s : State}

include h

/-- A command that issues acts at the hub, or is forwarded or refused by the command unit (R161, R164). -/
theorem issue (c : HeldCommand) (hs : P s) : P (s.issue c) := by
  unfold State.issue
  split
  · exact h.act c _ (h.blocks (by simp [State.sameBlocks]) hs)
  · split
    · exact h.blocks (by simp [State.sameBlocks]) hs
    · exact h.blocks (by simp [State.sameBlocks]) hs

theorem drain (n : Nat) (hs : P s) : P (s.drain n) := by
  induction n generalizing s with
  | zero => exact hs
  | succ n ih =>
    unfold State.drain
    split
    · exact hs
    · next c _ =>
      split
      · exact h.blocks (by simp [State.sameBlocks]) hs
      · exact ih (h.blocks (by simp [State.sameBlocks]) (h.issue c hs))

theorem settle (hs : P s) : P s.settle := h.drain _ (h.blocks (by simp [State.sameBlocks]) hs)

/-- An event whose effect keeps the law keeps it to its end (R158, R180, R185). -/
theorem event {f : State → State} (hf : ∀ {u}, P u → P (f u)) (hs : P s) : EndsIn P (s.event f) := by
  refine ⟨_, rfl, ?_⟩
  split
  · exact hs
  · exact h.settle (hf hs)

theorem arrive (dest src : Address) (seq : Byte) (payload : List Byte) (hs : P s) :
    P (s.arriveCommand dest src seq payload) := by
  unfold State.arriveCommand
  split
  · exact h.reset seq hs
  · exact h.blocks (by simp [State.sameBlocks]) hs

/-- Every row of the table keeps the law: a row that names a command to the hub is the arrival of its COMMAND (log 1). -/
theorem exec (i : Instr) (hs : P s) : EndsIn P (exec i s) := by
  cases i with
  | powerOnOrRst => exact ⟨_, rfl, h.powerOn hs⟩
  | rstRelease =>
    refine ⟨_, rfl, ?_⟩
    split
    · exact h.settle (h.release hs)
    · exact hs
  | portUBadFrame => exact h.event (fun hu => hu) hs
  | portDBadFrame => exact h.event h.badFrame hs
  | unfitFrame => exact h.event h.goodFrame hs
  | otherFrameOnPortU => exact h.event (fun hu => hu) hs
  | command dest src seq payload => exact h.event (h.arrive dest src seq payload) hs
  | reset seq => exact h.event (h.reset seq) hs
  | sample c f fold => exact h.event (fun hu => h.sample c f fold (h.goodFrame hu)) hs
  | input f => exact h.event (fun hu => h.input f (h.goodFrame hu)) hs
  | stage f => exact h.event (fun hu => h.stage f (h.goodFrame hu)) hs
  | nodeReply n dest seq payload => exact h.event (fun hu => h.nodeReply n dest seq payload (h.goodFrame hu)) hs
  | unknownCommand dest src seq payload => exact h.event (h.arrive dest src seq payload) hs
  | nodeCommand n src seq payload => exact h.event (h.arrive (nodeAddress n) src seq payload) hs
  | waitLimitExpiry => exact h.event (h.blocks (by simp [State.sameBlocks])) hs
  | nodeTimeout n => exact h.event (h.nodeTimeout n) hs
  | answerTimeout => exact h.event h.answerTimeout hs
  | stalenessExpiry x => exact h.event (h.staleness x) hs
  | restExpiry c => exact h.event (f := fun u => u.expireRest c) (h.rest c) hs
  | dwellExpiry => exact h.event h.dwell hs
  | timeLimitExpiry => exact h.event h.timeLimit hs
  | cooldownExpiry => exact h.event h.cooldown hs
  | portUFrameSent => exact h.event (h.blocks (by simp [State.sameBlocks])) hs
  | portDFrameSent => exact h.event (h.blocks (by simp [State.sameBlocks])) hs
  | _ => exact h.event (h.arrive _ _ _ _) hs

/-- A step is the front command's row, or with none waiting the hub's own time (log 2). -/
theorem step (hs : P s) : EndsIn P (step s) := by
  unfold Machine.step
  split
  · unfold State.idle
    split
    · exact ⟨_, rfl, hs⟩
    · split
      · exact ⟨_, rfl, h.tick hs⟩
      · exact h.exec _ hs
  · exact h.exec _ (h.blocks (by simp [State.sameBlocks]) hs)

/-- A law that each event keeps is kept by every step. -/
theorem of_step {t : State} (hs : P s) (ht : Machine.step s = .next t) : P t := by
  obtain ⟨u, hu, hPu⟩ := h.step hs
  obtain rfl : u = t := by simpa [ht] using hu.symm
  exact hPu

end KeptByEvents

end Sys2Proof.Events
end

section
/-! SUPPORT. The shuttle and the bleeds across a step: an event that switches nothing on keeps them apart, one that leaves RUN
leaves both off, and what is switched on is switched on in RUN with the other off (R125 to R138). -/

namespace Sys2Proof.Balancing

open Sys2Proof.Machine Sys2Proof.Sequencing Sys2Proof.PowerPath

/-! ## What the law rests on -/

/-- `t` is in the operating state of `s`, with nothing on that `s` has off: neither the shuttle nor a bleed. -/
structure Subsides (s t : State) : Prop where
  op : t.op = s.op
  shuttle : t.balance.shuttle.active = true → s.balance.shuttle.active = true
  bleed : ∀ c, (t.balance.bleeds.get c).on = true → (s.balance.bleeds.get c).on = true

/-- Neither the shuttle nor a bleed is on. -/
def Still (s : State) : Prop := s.balance.shuttle.active = false ∧ s.anyBleed = false

theorem anyBleed_iff (s : State) : s.anyBleed = true ↔ ∃ c, (s.balance.bleeds.get c).on = true := by
  rw [State.anyBleed, Bool.or_eq_true]
  exact ⟨fun h => h.elim (⟨.one, ·⟩) (⟨.two, ·⟩), fun ⟨c, hc⟩ => by cases c; exacts [.inl hc, .inr hc]⟩

theorem anyBleed_off (s : State) : s.anyBleed = false ↔ ∀ c, (s.balance.bleeds.get c).on = false := by
  rw [← Bool.not_eq_true, anyBleed_iff]
  simp

/-- The law where one bleed at most is on with the shuttle off, and none with it on, in RUN (R128, R138). -/
theorem balanceLaw_run {s : State} (hop : s.op = .run) (hshuttle : s.balance.shuttle.active = true → s.anyBleed = false)
    (hone : (s.balance.bleeds.one.on && s.balance.bleeds.two.on) = false) : s.balanceLaw :=
  ⟨hshuttle, hone, fun hn => absurd hop hn⟩

/-- The law with every bleed off, in RUN. -/
theorem balanceLaw_noBleed {s : State} (hop : s.op = .run) (hoff : s.anyBleed = false) : s.balanceLaw := by
  have hone : s.balance.bleeds.one.on = false := (anyBleed_off s).mp hoff .one
  exact balanceLaw_run hop (fun _ => hoff) (by rw [hone]; rfl)

theorem Still.law {s : State} (h : Still s) : s.balanceLaw := by
  obtain ⟨hidle, hoff⟩ := h
  have hone : s.balance.bleeds.one.on = false := (anyBleed_off s).mp hoff .one
  exact ⟨fun _ => hoff, by rw [hone]; rfl, fun _ => ⟨hidle, hoff⟩⟩

theorem still_outside {s : State} (h : s.balanceLaw) (hop : s.op ≠ .run) : Still s := h.2.2 hop

theorem Still.same {s t : State} (h : Still s) (hb : t.balance = s.balance) : Still t := by
  simpa only [Still, State.anyBleed, hb] using h

/-- What switches nothing on keeps the law. -/
theorem Subsides.law {s t : State} (h : Subsides s t) (hs : s.balanceLaw) : t.balanceLaw := by
  obtain ⟨hapart, hone, hout⟩ := hs
  have hoff (hs : s.anyBleed = false) : t.anyBleed = false :=
    (anyBleed_off t).mpr fun c => Bool.eq_false_iff.mpr fun hc => by simpa [(anyBleed_off s).mp hs c] using h.bleed c hc
  refine ⟨fun ha => hoff (hapart (h.shuttle ha)), ?_, fun hop => ?_⟩
  · rw [Bool.eq_false_iff, Ne, Bool.and_eq_true] at hone ⊢
    exact fun ⟨h1, h2⟩ => hone ⟨h.bleed .one h1, h.bleed .two h2⟩
  · obtain ⟨hidle, hnone⟩ := hout (h.op ▸ hop)
    exact ⟨Bool.eq_false_iff.mpr fun ha => by simp [h.shuttle ha] at hidle, hoff hnone⟩

theorem Subsides.trans {s t u : State} (h : Subsides s t) (h' : Subsides t u) : Subsides s u :=
  ⟨h'.op.trans h.op, fun ha => h.shuttle (h'.shuttle ha), fun c hc => h.bleed c (h'.bleed c hc)⟩

/-- The operating state and the balance unit as they were. -/
theorem subsides_same {s t : State} (hop : t.op = s.op) (hb : t.balance = s.balance) : Subsides s t :=
  ⟨hop, by rw [hb]; exact id, fun c => by rw [hb]; exact id⟩

/-- Only the balance unit's figures moved: tables, amounts, timers and counts. -/
theorem subsides_marks {s t : State} (hop : t.op = s.op)
    (ha : t.balance.shuttle.active = s.balance.shuttle.active) (hb : t.balance.bleeds = s.balance.bleeds) :
    Subsides s t := ⟨hop, by rw [ha]; exact id, fun c => by rw [hb]; exact id⟩

/-! ## The balance unit's operations -/

theorem subsides_endShuttle (s : State) (why : EndReason) : Subsides s (s.endShuttle why) :=
  ⟨by simp, fun ha => by simp [endShuttle_active] at ha, by simp⟩

theorem subsides_bleedsOff (s : State) : Subsides s s.bleedsOff :=
  ⟨by simp, by simp, fun c hc => by simp [(anyBleed_off _).mp (bleedsOff_off s) c] at hc⟩

theorem subsides_endBalancing (s : State) (why : AbortReason) : Subsides s (s.endBalancing why) :=
  (subsides_endShuttle s _).trans (subsides_bleedsOff _)

theorem subsides_endChecks (s : State) (r : Summary) (p : Permission) : Subsides s (s.endChecks r p) := by
  unfold State.endChecks
  dsimp only
  split
  · split
    · exact subsides_endShuttle s _
    · split
      · exact subsides_endShuttle s _
      · exact subsides_same rfl rfl
  · exact subsides_same rfl rfl

/-- A disagreement counts and switches nothing (R127). -/
theorem subsides_compareBleed (s : State) (c : CellId) (flag : Bool) : Subsides s (s.compareBleed c flag) := by
  refine ⟨by simp, by simp, fun d hd => ?_⟩
  by_cases h : flag = (s.balance.bleeds.get c).on
  · rwa [State.compareBleed, if_pos h] at hd
  · rw [compareBleed_disagrees h] at hd
    revert hd
    cases c <;> cases d <;> exact id

theorem subsides_endOutside (s : State) (why : EndReason) : Subsides s (endOutside s why) := by
  have hend := subsides_endShuttle s why
  unfold endOutside
  split
  · exact hend.trans (subsides_same (by simp) (by simp))
  · exact hend

/-- A count moves figures, and the last one ends the shuttle (R130). -/
theorem subsides_countShuttle (s : State) (c : CellId) (n : Nat) (b : Int) : Subsides s (s.countShuttle c n b) := by
  by_cases h : s.balance.shuttle.active = true ∧ s.balance.shuttle.source = some c
  · have hcount : Subsides s (counted s (sampleCharge b n)) := subsides_marks rfl rfl rfl
    rw [countShuttle_source n b h.1 h.2]
    split
    · exact hcount.trans (subsides_endOutside _ .done)
    · exact hcount
  · rw [countShuttle_other n b (by simpa [imp_iff_not_or] using h)]
    exact subsides_same rfl rfl

/-- A shuttle starts in RUN with the bleeds off (R128, R129). -/
theorem balanceLaw_startShuttle {s : State} (o : Origin) (c : CellId) (lead : Int) (q : Nat) (hop : s.op = .run)
    (hoff : s.anyBleed = false) : (s.startShuttle o c lead q).balanceLaw :=
  balanceLaw_noBleed (by simpa using hop) (by simpa [State.anyBleed] using hoff)

/-- The bleed decision switches a bleed on only with both off (R126). -/
theorem bleedDecision_one {s : State} (r : Summary) (p : Permission) (m : Mode)
    (h : (s.balance.bleeds.one.on && s.balance.bleeds.two.on) = false) :
    ((s.bleedDecision r p m).balance.bleeds.one.on && (s.bleedDecision r p m).balance.bleeds.two.on) = false := by
  have hnew : (s.bleedDecision r p m).balance.bleeds = s.bleedStarted r p m (stoppedBleeds s r p m) := by
    rw [bleedDecision_eq]
    rfl
  rw [hnew, State.bleedStarted]
  split
  · next hcond =>
    obtain ⟨h1, h2, -⟩ := hcond
    cases r.fuller <;> simp [PerCell.set, h1, h2]
  · rw [Bool.eq_false_iff, Ne, Bool.and_eq_true] at h ⊢
    exact fun ⟨h1, h2⟩ => h ⟨(bleedStopped_on.mp h1).1, (bleedStopped_on.mp h2).1⟩

/-- With the shuttle IDLE in RUN: a start that is called for, or else the bleed decision (R126, R129). -/
theorem balanceLaw_idleDecision {s : State} (r : Summary) (p : Permission) (m : Mode) (h : s.balanceLaw)
    (hop : s.op = .run) (hidle : s.balance.shuttle.active = false) : (idleDecision s r p m).balanceLaw := by
  unfold idleDecision
  split
  · by_cases hany : s.anyBleed = true
    · rw [autoStart_deferred r hany]
      exact (subsides_bleedsOff s).law h
    · rw [State.autoStart, if_neg hany]
      exact balanceLaw_startShuttle _ _ _ _ hop (Bool.eq_false_iff.mpr hany)
  · refine balanceLaw_run (by simpa using hop) (fun ha => ?_) (bleedDecision_one r p m h.2.1)
    simp [hidle] at ha

/-- A hand-over's decisions in RUN (R125). -/
theorem balanceLaw_balanceDecision {s : State} (r : Summary) (p : Permission) (o : Bool) (m : Mode) (h : s.balanceLaw)
    (hop : s.op = .run) : (s.balanceDecision r p o m).balanceLaw := by
  let u := withShuttle s (markedShuttle s p o)
  have hu : u.balanceLaw := (subsides_marks (s := s) (t := u) rfl rfl rfl).law h
  rw [balanceDecision_marked]
  cases o with
  | true => exact ((subsides_endShuttle u _).trans (subsides_bleedsOff _)).law hu
  | false =>
    have hchecks := (subsides_endChecks u r p).law hu
    by_cases ha : (u.endChecks r p).balance.shuttle.active = true
    · rw [decisions, if_neg Bool.false_ne_true, if_pos ha]
      exact hchecks
    · rw [Bool.not_eq_true] at ha
      rw [decisions_idle r p m ha]
      exact balanceLaw_idleDecision r p m hchecks (by simpa [u, withShuttle] using hop) ha

/-! ## Leaving RUN, and evaluations in it -/

theorem still_enterHeld (s : State) (c : HoldCause) (b : Bool) : Still (s.enterHeld c b) := by
  obtain ⟨hidle, hoff, -⟩ := enterHeld_balance s c b
  exact ⟨hidle, hoff⟩

theorem still_leaveForConfig (s : State) : Still s.leaveForConfig := leaveForConfig_balance s

theorem balanceLaw_handCause {s : State} (c : HoldCause) (h : s.balanceLaw) : (s.handCause c).balanceLaw := by
  unfold State.handCause
  split
  · exact h
  · exact (still_enterHeld s c false).law
  · split <;> exact h

/-- A hand-over in RUN decides, and then sends its setpoint (R52, R125). -/
theorem balanceLaw_handOver {s : State} (r : Summary) (a : StepAddr) (e : StepEntry) (h : s.balanceLaw)
    (hop : s.op = .run) : (s.handOver r a e).balanceLaw := by
  let u := s.recordHandOver (some r) a e
  let v : State := { u with path.computation := some u.compute }
  have hdecided : (v.balanceDecision r e.permission (a.row = overrideRow) u.compute.mode).balanceLaw :=
    balanceLaw_balanceDecision r e.permission _ _ h hop
  exact (subsides_same (by simp [u, v]) (by simp [State.handOver, u, v])).law hdecided

theorem balanceLaw_evaluateLast {s : State} (h : s.balanceLaw) (hop : s.op = .run) : s.evaluateLast.1.balanceLaw := by
  have hsync : s.dwellSync.balanceLaw := (subsides_same (by simp) (by simp)).law h
  unfold State.evaluateLast
  dsimp only
  split
  · exact hsync
  · exact balanceLaw_handCause _ hsync
  · split
    · exact balanceLaw_handOver _ _ _ hsync (by simpa using hop)
    · exact hsync

theorem balanceLaw_evaluateEntry {s : State} (h : s.balanceLaw) (hop : s.op = .run) : s.evaluateEntry.1.balanceLaw := by
  have hlast := balanceLaw_evaluateLast h hop
  unfold State.evaluateEntry
  dsimp only
  split
  · exact hlast
  · split
    · exact (subsides_same (by simp) (by simp)).law hlast
    · exact hlast

theorem balanceLaw_eventCause {s : State} (c : EventCause) (h : s.balanceLaw) : (s.eventCause c).balanceLaw := by
  unfold State.eventCause
  dsimp only
  split
  · exact h
  · have hset : (s.changeCauses c.source (s.guard.causes.addEvent c) none).balanceLaw :=
      (subsides_same (by simp) (by simp)).law h
    split
    case isTrue hop => exact balanceLaw_evaluateLast hset hop
    case isFalse => exact hset

theorem balanceLaw_afterStage2 {s : State} (r : Summary) (b : Option Entered) (h : s.balanceLaw) (hop : s.op = .run) :
    (s.afterStage2 r b).balanceLaw := by
  have hstage : (s.stageStep r).state.op = s.op ∧ (s.stageStep r).state.balance = s.balance := by simp
  unfold State.afterStage2
  revert hstage
  cases s.stageStep r with
  | blocked t target =>
    rintro ⟨hop', hbal⟩
    exact balanceLaw_handCause _ ((subsides_same hop' hbal).law h)
  | ok t x =>
    rintro ⟨hop', hbal⟩
    rw [StepOutcome.state_ok] at hop' hbal
    have ht : t.balanceLaw := (subsides_same hop' hbal).law h
    dsimp only
    split
    · exact ht
    · exact balanceLaw_handCause _ ht
    · exact balanceLaw_handOver _ _ _ ((subsides_same (by simp) (by simp)).law ht) (by simpa [hop'] using hop)

/-- A completed round is evaluated in RUN alone (R22). -/
theorem balanceLaw_completeRound {s : State} (k l : Contribution) (h : s.balanceLaw) :
    (s.completeRound k l).balanceLaw := by
  unfold State.completeRound
  dsimp only
  split
  case isTrue hop =>
    rw [State.roundEvaluation_eq]
    exact balanceLaw_afterStage2 _ _ ((subsides_same (by simp [State.clearRound]) (by simp [State.clearRound])).law h)
      (by simpa using hop)
  case isFalse => exact h

/-! ## Frames from the nodes -/

theorem balanceLaw_breaches {s : State} (c : CellId) (q : Byte) (p : Bool) (l : List (HoldKind × Int))
    (h : s.balanceLaw) : (l.foldl (fun t b => t.breach c q p b) s).balanceLaw := by
  induction l generalizing s with
  | nil => exact h
  | cons b l ih =>
    have hb : (s.breach c q p b).balanceLaw := by
      unfold State.breach
      split
      · exact h
      · exact balanceLaw_handCause _ h
    exact ih hb

/-- A SAMPLE may breach a limit, counts for the shuttle, may disagree with its bleed record and may complete the round, in that
order (R17, R20, R127, R130). -/
theorem balanceLaw_takeSample {s : State} (c : CellId) (f : SampleFrame) (p : Bool) (h : s.balanceLaw) :
    (s.takeSample c f p).balanceLaw := by
  unfold State.takeSample
  dsimp only
  split
  · exact h
  · have hcompared := (subsides_compareBleed _ c (sampleBleeding f)).law
      ((subsides_countShuttle _ c (clampInterval f.interval) f.balance.toInt).law
        (balanceLaw_breaches (s := s.setCell c ((s.cell c).takeSample s.cells c f s.guard.staleMs)) c f.seq p
          (GuardUnit.breaches s.guard (sampleMillivolts f) (sampleTenths f)) h))
    split
    · unfold State.contribute
      dsimp only
      split
      · exact balanceLaw_completeRound _ _ hcompared
      · exact hcompared
    · exact hcompared

theorem balanceLaw_routeSample {s : State} (c : CellId) (f : SampleFrame) (h : s.balanceLaw) :
    (s.routeSample c f).balanceLaw := by
  have hforward {t : State} (q : Pass) (b : Bool) (ht : t.balanceLaw) : (t.forwardSample q c f b).balanceLaw := by
    unfold State.forwardSample
    split <;> exact (subsides_same (by simp) (by simp)).law ht
  unfold State.routeSample
  refine hforward _ _ ?_
  split
  · exact balanceLaw_takeSample c f _ h
  · exact h

theorem balanceLaw_takeStage {s : State} (f : StageFrame) (p : Bool) (h : s.balanceLaw) :
    (s.takeStage f p).balanceLaw := by
  have hreport : (s.enterReport f (s.reportAnswers f)).balanceLaw := (subsides_same (by simp) (by simp)).law h
  unfold State.takeStage
  dsimp only
  split
  · exact hreport
  · exact balanceLaw_handCause _ hreport

theorem balanceLaw_routeStage {s : State} (f : StageFrame) (h : s.balanceLaw) : (s.routeStage f).balanceLaw := by
  have hforward {t : State} (q : Pass) (ht : t.balanceLaw) : (t.forwardPlain q (stageToFrame f)).balanceLaw :=
    (subsides_same (by simp) (by simp)).law ht
  unfold State.routeStage
  refine hforward _ ?_
  split
  · exact balanceLaw_takeStage f _ h
  · exact h

/-! ## Timers -/

theorem balanceLaw_badFrameD {s : State} (h : s.balanceLaw) : s.badFrameD.balanceLaw := by
  unfold State.badFrameD
  dsimp only
  split
  · exact balanceLaw_eventCause .link h
  · exact h

theorem balanceLaw_expireStaleness {s : State} (x : TimedRecord) (h : s.balanceLaw) :
    (s.expireStaleness x).balanceLaw := by
  unfold State.expireStaleness
  cases x with
  | cell c =>
    dsimp only
    split
    · exact balanceLaw_eventCause _ h
    · exact h
  | input =>
    dsimp only
    split
    · exact (subsides_same (by simp) (by simp)).law h
    · exact h

theorem balanceLaw_expireAnswer {s : State} (h : s.balanceLaw) : s.expireAnswer.balanceLaw := by
  unfold State.expireAnswer
  dsimp only
  split
  · split <;> exact balanceLaw_handCause _ ((subsides_same (by simp) (by simp)).law h)
  · exact h

theorem subsides_expireTimeLimit (s : State) : Subsides s s.expireTimeLimit := by
  by_cases ha : s.balance.shuttle.active = true
  · rw [expireTimeLimit_active ha]
    exact (subsides_marks (s := s) (t := timedOut s) rfl rfl rfl).trans (subsides_endOutside _ .timeout)
  · rw [State.expireTimeLimit, if_neg ha]
    exact subsides_same rfl rfl

/-! ## Commands that leave the shuttle and the bleeds -/

theorem subsides_answer (s : State) (c : HeldCommand) (status : Status) (results : List Field) :
    Subsides s (s.answer c status results) := subsides_same (by simp) (by simp)

theorem balanceLaw_answer {s : State} (c : HeldCommand) (status : Status) (results : List Field) (h : s.balanceLaw) :
    (s.answer c status results).balanceLaw := (subsides_answer s c status results).law h

/-- The commands of the step banks leave the balance unit. -/
theorem subsides_steps (s : State) (c : HeldCommand) :
    (∀ bank row col e, Subsides s (s.loadStep c bank row col e))
      ∧ (∀ bank row col, Subsides s (s.clearEntry c bank row col)) ∧ (∀ bank, Subsides s (s.clearBank c bank))
      ∧ (∀ bank row col, Subsides s (s.readStep c bank row col))
      ∧ (∀ bank target, Subsides s (s.takeSwap c bank target)) ∧ ∀ row col, Subsides s (s.takeGoto c row col) := by
  unfold State.loadStep State.clearEntry State.clearBank State.readStep State.takeSwap State.takeGoto
  and_intros <;> intros <;> (repeat' split) <;> exact subsides_same (by simp [State.setEntry]) (by simp [State.setEntry])

/-- LOAD_TABLE writes a table, and no record of the balance unit (R123). -/
theorem subsides_loadTable (s : State) (c : HeldCommand) :
    (∀ i v, Subsides s (s.loadCell c i v)) ∧ (∀ i v w, Subsides s (s.loadOcv c i v w))
      ∧ (∀ i v w, Subsides s (s.loadDerate c i v w)) ∧ (∀ i v, Subsides s (s.loadGuard c i v))
      ∧ (∀ i v, Subsides s (s.loadLimit c i v)) ∧ (∀ i v, Subsides s (s.loadBalance c i v))
      ∧ ∀ i v, Subsides s (s.loadRoute c i v) := by
  unfold State.loadCell State.loadOcv State.loadDerate State.loadGuard State.loadLimit State.loadBalance State.loadRoute
  and_intros <;> intros <;> (repeat' split) <;> exact subsides_marks (by simp) (by simp) (by simp)

/-- READ_TABLE and QUERY only answer. -/
theorem subsides_reads (s : State) (c : HeldCommand) :
    (∀ table i, Subsides s (s.readTableAt c table i)) ∧ ∀ x y z, Subsides s (s.takeQuery c x y z) := by
  unfold State.readTableAt State.readCell State.readOcv State.readDerate State.readGuard State.readLimit State.readBalance
    State.readRoute State.takeQuery
  dsimp only
  and_intros <;> intros <;> (repeat' split) <;> exact subsides_answer _ _ _ _

/-- The commands of the supply, LOCK and SET_CHARGE leave the balance unit. -/
theorem subsides_settings (s : State) (c : HeldCommand) :
    (∀ v i cls, Subsides s (s.takeOffer c v i cls)) ∧ Subsides s (s.takeAccept c) ∧ Subsides s (s.takeWithdraw c)
      ∧ Subsides s (s.takeShip c) ∧ Subsides s (s.takeLock c)
      ∧ ∀ cell content, Subsides s (s.takeSetCharge c cell content) := by
  unfold State.takeOffer State.takeAccept State.takeWithdraw State.takeShip State.takeLock State.takeSetCharge
  dsimp only
  and_intros <;> intros <;> (repeat' split) <;> exact subsides_same (by simp) (by simp)

/-! ## Commands that move the hub between its states -/

/-- START enters RUN from CONFIG, where both are off (R138, R187). -/
theorem balanceLaw_takeStart {s : State} (c : HeldCommand) (bank row col : Byte) (h : s.balanceLaw) :
    (s.takeStart c bank row col).balanceLaw := by
  unfold State.takeStart
  split
  · exact balanceLaw_answer _ _ _ h
  · next hop =>
    have hstill : Still s := still_outside h (by simp [not_not.mp hop])
    split
    · exact balanceLaw_answer _ _ _ h
    · next a _ =>
      split
      · exact balanceLaw_answer _ _ _ h
      · exact balanceLaw_answer _ _ _ (balanceLaw_evaluateEntry (hstill.same (by simp)).law
          (by rw [startSteps_eq]; simp [started]))

theorem balanceLaw_takeStop {s : State} (c : HeldCommand) (h : s.balanceLaw) : (s.takeStop c).balanceLaw := by
  unfold State.takeStop
  split
  · exact balanceLaw_answer _ _ _ h
  · exact balanceLaw_answer _ _ _ (still_leaveForConfig s).law

theorem balanceLaw_takeOverride {s : State} (c : HeldCommand) (code : Byte) (h : s.balanceLaw) :
    (s.takeOverride c code).balanceLaw := by
  unfold State.takeOverride
  split
  · exact balanceLaw_answer _ _ _ h
  · split
    · exact balanceLaw_answer _ _ _ (balanceLaw_eventCause (s := { s with guard.hostReq := true }) .hostSet h)
    · split <;> exact balanceLaw_answer _ _ _ h

theorem balanceLaw_takeHold {s : State} (c : HeldCommand) (code : Option Word) (h : s.balanceLaw) :
    (s.takeHold c code).balanceLaw := by
  unfold State.takeHold
  split
  · exact balanceLaw_answer _ _ _ h
  · exact balanceLaw_answer _ _ _ (balanceLaw_handCause _ h)

/-- A RESUME enters RUN from HELD, where both are off, or enters HELD again (R138, R151, R152). -/
theorem balanceLaw_resumeRun {s : State} (c : HeldCommand) (d : Disposition) (p : Placing) (h : Still s) :
    (s.resumeRun c d p).balanceLaw := by
  have hplaced : ((s.acceptResume d).place p).balance = s.balance := by
    cases p <;> simp [State.place, State.acceptResume]
  unfold State.resumeRun
  dsimp only
  split
  · exact balanceLaw_answer _ _ _ (still_enterHeld _ _ _).law
  · have hrun : Still { (s.acceptResume d).place p with op := .run } := h.same hplaced
    exact balanceLaw_answer _ _ _ (balanceLaw_evaluateEntry hrun.law rfl)

theorem balanceLaw_takeResume {s : State} (c : HeldCommand) (d : Byte) (h : s.balanceLaw) :
    (s.takeResume c d).balanceLaw := by
  unfold State.takeResume
  split
  · exact balanceLaw_answer _ _ _ h
  · next hop =>
    have hstill : Still s := still_outside h (by simp [not_not.mp hop])
    split
    · exact balanceLaw_resumeRun c _ _ hstill
    split
    · exact balanceLaw_resumeRun c _ _ hstill
    split
    · split
      · exact balanceLaw_resumeRun c _ _ hstill
      · exact balanceLaw_answer _ _ _ h
    split
    · exact balanceLaw_answer _ _ _ (still_leaveForConfig _).law
    · exact balanceLaw_answer _ _ _ h

theorem balanceLaw_takeResumeStep {s : State} (c : HeldCommand) (row col : Byte) (h : s.balanceLaw) :
    (s.takeResumeStep c row col).balanceLaw := by
  unfold State.takeResumeStep
  split
  · exact balanceLaw_answer _ _ _ h
  · next hop =>
    split
    · exact balanceLaw_resumeRun c _ _ (still_outside h (by simp [not_not.mp hop]))
    · exact balanceLaw_answer _ _ _ h

/-! ## The BALANCE commands -/

/-- BALANCE SHUTTLE starts in RUN, after the bleeds have been set OFF (R128, R135). -/
theorem balanceLaw_takeShuttle {s : State} (c : HeldCommand) (cell : Byte) (given : Option (Word × Byte))
    (h : s.balanceLaw) : (s.takeShuttle c cell given).balanceLaw := by
  unfold State.takeShuttle
  split
  · exact balanceLaw_answer _ _ _ h
  · next k _ =>
    split
    · next htaken =>
      split
      · exact balanceLaw_answer _ _ _ h
      · next q _ _ =>
        obtain ⟨hop, -⟩ := (balanceTaken_iff s).mp htaken
        obtain ⟨-, hoff, -⟩ := hostShuttle_balance s k q
        exact balanceLaw_answer _ _ _ (balanceLaw_noBleed (by simpa [State.hostShuttle] using hop) hoff)
    · exact balanceLaw_answer _ _ _ h

/-- BALANCE BLEED switches a bleed on with the shuttle IDLE, and the other bleed OFF with it (R128, R136). -/
theorem balanceLaw_takeBleed {s : State} (c : HeldCommand) (cell setting : Byte) (h : s.balanceLaw) :
    (s.takeBleed c cell setting).balanceLaw := by
  by_cases harg : cellOf cell = none ∨ settingOf setting = none
  · rw [takeBleed_badEntry c harg]
    exact balanceLaw_answer _ _ _ h
  obtain ⟨hcell, hset⟩ := not_or.mp harg
  obtain ⟨k, hk⟩ := Option.ne_none_iff_exists'.mp hcell
  obtain ⟨on, hon⟩ := Option.ne_none_iff_exists'.mp hset
  cases htaken : s.balanceTaken with
  | false =>
    rw [takeBleed_outside c hk hon htaken]
    exact balanceLaw_answer _ _ _ h
  | true =>
    obtain ⟨hop, -⟩ := (balanceTaken_iff s).mp htaken
    by_cases hactive : on = true ∧ s.balance.shuttle.active = true
    · obtain ⟨rfl, ha⟩ := hactive
      rw [takeBleed_active c hk hon htaken ha]
      exact balanceLaw_answer _ _ _ h
    · rw [takeBleed_sets c hk hon htaken hactive]
      refine balanceLaw_answer _ _ _ ?_
      cases on with
      | false =>
        refine Subsides.law ⟨by simp, by simp, fun d hd => ?_⟩ h
        revert hd
        cases k <;> cases d <;> simp [(putBleeds_sent s _ _).1, BalanceUnit.hostBleeds, BleedRecord.setTo, PerCell.get,
          PerCell.set]
      | true =>
        refine balanceLaw_run (by simpa using hop) (fun ha => absurd ⟨rfl, by simpa using ha⟩ hactive) ?_
        cases k <;> simp [(putBleeds_sent s _ _).1, BalanceUnit.hostBleeds, BalanceUnit.bothOff, BleedRecord.setTo,
          PerCell.set]

theorem balanceLaw_takeBalanceStop {s : State} (c : HeldCommand) (h : s.balanceLaw) :
    (s.takeBalanceStop c).balanceLaw := by
  unfold State.takeBalanceStop
  split
  · have hend := subsides_endBalancing s .command
    exact balanceLaw_answer _ _ _ ((hend.trans (subsides_same (by simp) (stopBalancing_balance s))).law h)
  · exact balanceLaw_answer _ _ _ h

/-! ## Every step -/

/-- Every command to the hub keeps the law (R161). -/
theorem balanceLaw_act {s : State} (c : HeldCommand) (k : HubCommand) (h : s.balanceLaw) : (s.act c k).balanceLaw := by
  obtain ⟨hload, hclear, hbank, hread, hswap, hgoto⟩ := subsides_steps s c
  obtain ⟨hcell, hocv, hderate, hguard, hlimit, hbalance, hroute⟩ := subsides_loadTable s c
  obtain ⟨htable, hquery⟩ := subsides_reads s c
  obtain ⟨hoffer, haccept, hwithdraw, hship, hlock, hcharge⟩ := subsides_settings s c
  cases k with
  | loadStep bank row col e => exact (hload bank row col e).law h
  | clearEntry bank row col => exact (hclear bank row col).law h
  | clearBank bank => exact (hbank bank).law h
  | readStep bank row col => exact (hread bank row col).law h
  | loadCell i v => exact (hcell i v).law h
  | loadOcv i v w => exact (hocv i v w).law h
  | loadDerate i v w => exact (hderate i v w).law h
  | loadGuard i v => exact (hguard i v).law h
  | loadLimit i v => exact (hlimit i v).law h
  | loadBalance i v => exact (hbalance i v).law h
  | loadRoute i v => exact (hroute i v).law h
  | readTable table i => exact (htable table i).law h
  | lock => exact hlock.law h
  | start bank row col => exact balanceLaw_takeStart c bank row col h
  | stop => exact balanceLaw_takeStop c h
  | swap bank target => exact (hswap bank target).law h
  | goto row col => exact (hgoto row col).law h
  | override code => exact balanceLaw_takeOverride c code h
  | hold code => exact balanceLaw_takeHold c code h
  | resume d => exact balanceLaw_takeResume c d h
  | resumeStep row col => exact balanceLaw_takeResumeStep c row col h
  | offer v i cls => exact (hoffer v i cls).law h
  | accept => exact haccept.law h
  | withdraw => exact hwithdraw.law h
  | ship => exact hship.law h
  | shuttle cell amount => exact balanceLaw_takeShuttle c cell amount h
  | bleed cell setting => exact balanceLaw_takeBleed c cell setting h
  | balanceStop => exact balanceLaw_takeBalanceStop c h
  | setCharge cell content => exact (hcharge cell content).law h
  | query selector argument part => exact (hquery selector argument part).law h
  | badArguments => exact balanceLaw_answer c _ _ h
  | unknown => exact balanceLaw_answer c _ _ h

/-- The soft reset ends the shuttle and sets both records OFF (R138). -/
theorem still_takeReset (s : State) (seq : Byte) : Still (s.takeReset seq) := by
  refine ⟨?_, rfl⟩
  show (Shuttle.softReset _).active = false
  unfold Shuttle.softReset
  dsimp only
  split
  · rfl
  · next h => exact Bool.eq_false_iff.mpr h

/-- Each event of the table keeps the law: most switch nothing on. -/
theorem balanceLaw_kept : Events.KeptByEvents State.balanceLaw where
  blocks := by
    rintro s t ⟨-, -, -, hop, -, -, -, -, -, hbalance, -⟩
    exact (subsides_same hop hbalance).law
  powerOn _ := Still.law ⟨rfl, rfl⟩
  release := (subsides_same (by simp) (by simp)).law
  reset seq _ := (still_takeReset _ seq).law
  act := balanceLaw_act
  badFrame := balanceLaw_badFrameD
  goodFrame := (subsides_same (by simp) (by simp)).law
  sample c f _ h := balanceLaw_routeSample c f h
  input f := by
    refine Subsides.law ?_
    unfold State.routeInput
    dsimp only
    split <;> exact subsides_same (by simp) (by simp)
  stage := balanceLaw_routeStage
  nodeReply n dest seq payload := (subsides_same (by simp) (by simp)).law
  nodeTimeout n := (subsides_same (by simp) (by simp)).law
  answerTimeout := balanceLaw_expireAnswer
  staleness := balanceLaw_expireStaleness
  rest c := (subsides_same (by simp) (by simp)).law
  dwell := (subsides_same (by simp) (by simp)).law
  timeLimit := (subsides_expireTimeLimit _).law
  cooldown := (subsides_marks rfl rfl rfl).law
  tick := (subsides_marks rfl rfl rfl).law

/-- Settles O49: an event switches nothing on (`Subsides.law`), leaves both off (`Still.law`), or switches one on in RUN with the
other off (`balanceLaw_balanceDecision` and the BALANCE commands); every step is made of such events. -/
theorem stepKeepsBalance : Obligations.StepKeepsBalance := fun _ _ h ht => balanceLaw_kept.of_step h ht

end Sys2Proof.Balancing
end

section
/-! SUPPORT. What an event may do to the command queue, the node-outstanding table, the pending swap and the output queues: its
work as a chain of a few ways of changing them, and every step of the hub as one such event with its end (R155 to R165, R178 to
R180). -/

namespace Sys2Proof.CommandQueue

open Sys2Proof.Machine Sys2Proof.Sequencing Sys2Proof.PowerPath Sys2Proof.Balancing

/-! ## The hub's work on its queues -/

/-- From `s` to `t` nothing is answered, forwarded or sent on port U: alerts may be queued, and node entries of commands may be
dropped or give way to a SETPOINT (R115, R179). -/
structure SameQueues (s t : State) : Prop where
  held : t.cmd.held = s.cmd.held
  replies : t.out.replies = s.out.replies
  forward : t.out.forward = s.out.forward
  sending : t.link.sendingU = s.link.sendingU
  alerts : (s.out.alerts.map (·.kind)).Nodup → (t.out.alerts.map (·.kind)).Nodup
  nodes : ∀ n, ∀ p ∈ (t.cmd.nodes.get n).place?, p ∈ (s.cmd.nodes.get n).place?
  swap : t.seqr.swap = s.seqr.swap

/-- The work of an event on the commands that the queue holds already: besides leaving them, it ends the pending swap with a
reply (R38 to R40), forwards the head (R158, log 30), answers the head (R159, R161), or passes a node's measurement to port U
(R174). -/
inductive Works : State → State → Prop
  | same {s t : State} : SameQueues s t → Works s t
  | endsSwap {s : State} {w : PendingSwap} (echo : Byte) (status : Status) (results : List Field) :
      s.seqr.swap = some w → Works s (State.answerAt { s with seqr.swap := none } w.place echo status results)
  | forwards {s : State} {c : HeldCommand} {n : NodeId} :
      s.head = some c → nodeOf c.dest = some n → Works s (s.forwardCommand c n)
  | refuses {s : State} {c : HeldCommand} (status : Status) (results : List Field) :
      s.head = some c → Works s (s.answer c status results)
  | passes {s : State} {u : UpFrame} : u.answers = none → u.nodeReply = false → Works s (s.placeForward u)
  | trans {s t u : State} : Works s t → Works t u → Works s u

/-- The command unit, the output queues, the frame being sent on port U and the pending swap: all that the laws of the queues rest
on. -/
def queues (s : State) : CommandUnit × OutputQueues × Option UpFrame × Option PendingSwap :=
  (s.cmd, s.out, s.link.sendingU, s.seqr.swap)

theorem sameQueues_of {s t : State} (h : queues t = queues s) : SameQueues s t := by
  obtain ⟨hcmd, hout, hsending, hswap⟩ : t.cmd = s.cmd ∧ t.out = s.out ∧ t.link.sendingU = s.link.sendingU
    ∧ t.seqr.swap = s.seqr.swap := by simpa [queues] using h
  constructor <;> simp [hcmd, hout, hsending, hswap]

/-- Work that leaves the queues altogether. -/
theorem works_of {s t : State} (h : queues t = queues s) : Works s t := .same (sameQueues_of h)

theorem Works.refl (s : State) : Works s s := works_of rfl

/-- What came before may have touched any other block. -/
theorem Works.after {s s' t : State} (h : Works s' t) (hs : queues s' = queues s) : Works s t := .trans (works_of hs) h

/-- What comes after may touch any other block. -/
theorem Works.upTo {s t t' : State} (h : Works s t) (ht : queues t' = queues t) : Works s t' := .trans h (works_of ht)

/-! ## Alerts and setpoints -/

/-- An alert takes the place of its kind, or is appended (R179). -/
theorem putAlert_kinds (a : Alert) (l : List Alert) :
    (putAlert a l).map (·.kind) = if a.kind ∈ l.map (·.kind) then l.map (·.kind) else l.map (·.kind) ++ [a.kind] := by
  induction l with
  | nil => rfl
  | cons x xs ih =>
    unfold putAlert
    by_cases h : x.kind = a.kind
    · simp [h]
    · rw [if_neg h, List.map_cons, ih]
      have hx : a.kind ≠ x.kind := Ne.symm h
      by_cases hm : a.kind ∈ xs.map (·.kind)
      · rw [if_pos hm, if_pos (by simp [List.mem_map.mp hm])]
        rfl
      · rw [if_neg hm, if_neg (by simpa [hx] using hm)]
        rfl

theorem putAlert_nodup (a : Alert) {l : List Alert} (h : (l.map (·.kind)).Nodup) :
    ((putAlert a l).map (·.kind)).Nodup := by
  rw [putAlert_kinds]
  split
  · exact h
  · next hm => exact h.append (List.nodup_singleton _) (by simpa using hm)

theorem works_alert (s : State) (k : AlertKind) (fs : List Field) : Works s (s.alert k fs) :=
  .same { sameQueues_of (s := s) (t := s) rfl with alerts := putAlert_nodup ⟨k, fs⟩ }

/-- A SETPOINT that is sent takes the entry of node 4 (R115). -/
theorem works_sendSetpoint (s : State) (p : Setpoint) : Works s (s.sendSetpoint p) := by
  refine .same ⟨by simp, by simp, by simp, by simp, by simp, fun n q hq => ?_, by simp⟩
  simp only [sendSetpoint_sent] at hq
  cases n with
  | s4 => simp [PerNode.get, PerNode.set, NodeEntry.place?] at hq
  | _ => exact hq

theorem works_transport (s : State) (p : Setpoint) : Works s (s.transport p) := by
  unfold State.transport
  split
  · exact works_of (by simp [queues])
  · exact works_sendSetpoint s p

theorem works_callSetpoint (s : State) : Works s s.callSetpoint := by
  unfold State.callSetpoint
  split
  · exact (works_transport _ _).after rfl
  · exact works_transport s _

theorem works_judgePresence (s : State) : Works s s.judgePresence := by
  unfold State.judgePresence
  dsimp only
  split
  · exact .refl s
  · split <;> exact (works_callSetpoint _).after rfl

theorem nodes_get_set (p : PerNode NodeEntry) (n m : NodeId) (e : NodeEntry) :
    (p.set n e).get m = if m = n then e else p.get m := by
  cases n <;> cases m <;> rfl

theorem works_freed (s : State) (n : NodeId) : Works s (freed s n) := by
  refine .same ⟨rfl, rfl, rfl, rfl, id, fun m q hq => ?_, rfl⟩
  rw [freed, nodes_get_set] at hq
  split at hq
  · simp [NodeEntry.place?] at hq
  · exact hq

theorem works_forwardHead (s : State) (n : NodeId) : Works s (s.forwardHead n) := by
  unfold State.forwardHead
  split
  · exact .refl s
  · next c hc =>
    split
    · next hn => exact .forwards hc hn
    · exact .refl s

/-- A node freed goes to the slot's setpoint, or to the head where it waits for the node (R116, R119, R158). -/
theorem works_released (s : State) (n : NodeId) : Works (freed s n) (s.releaseNode n) := by
  by_cases h : n = .s4 → s.path.slot = none
  · rw [releaseNode_head h]
    exact works_forwardHead _ n
  · obtain ⟨rfl, hslot⟩ := Classical.not_imp.mp h
    obtain ⟨p, hp⟩ := Option.ne_none_iff_exists'.mp hslot
    rw [releaseNode_slot hp]
    exact (works_sendSetpoint _ p).after rfl

theorem works_releaseNode (s : State) (n : NodeId) : Works s (s.releaseNode n) :=
  (works_freed s n).trans (works_released s n)

/-! ## Balancing -/

theorem works_endShuttle (s : State) (why : EndReason) : Works s (s.endShuttle why) := by
  unfold State.endShuttle
  dsimp only
  split
  · exact (works_alert _ _ _).after rfl
  · exact .refl s

theorem works_bleedsOff (s : State) : Works s s.bleedsOff := works_of (by simp [queues])

theorem works_endBalancing (s : State) (why : AbortReason) : Works s (s.endBalancing why) :=
  (works_endShuttle s _).trans (works_bleedsOff _)

theorem works_endChecks (s : State) (r : Summary) (p : Permission) : Works s (s.endChecks r p) := by
  unfold State.endChecks
  dsimp only
  split
  · split
    · exact works_endShuttle s _
    · split
      · exact works_endShuttle s _
      · exact .refl s
  · exact .refl s

theorem works_balanceDecision (s : State) (r : Summary) (p : Permission) (o : Bool) (m : Mode) :
    Works s (s.balanceDecision r p o m) := by
  have hdecided (u : State) : Works u (if u.balance.shuttle.active then u else if u.startCalled r p then u.autoStart r
      else u.bleedDecision r p m) := by
    split
    · exact .refl u
    · split <;> exact works_of (by simp [queues])
  unfold State.balanceDecision
  dsimp only
  split
  · exact ((works_endShuttle _ _).trans (works_bleedsOff _)).after rfl
  · exact ((works_endChecks _ r p).trans (hdecided _)).after rfl

theorem works_countShuttle (s : State) (c : CellId) (interval : Nat) (b : Int) :
    Works s (s.countShuttle c interval b) := by
  unfold State.countShuttle
  dsimp only
  split
  · split
    · split
      · exact ((works_endShuttle _ _).trans (works_callSetpoint _)).after rfl
      · exact (works_endShuttle _ _).after rfl
    · exact works_of (by simp [queues])
  · exact .refl s

/-! ## The cause set, holds and swaps -/

theorem works_changeCauses (s : State) (source : CauseSource) (new : Causes) (r : Option Summary) :
    Works s (s.changeCauses source new r) := by
  unfold State.changeCauses
  dsimp only
  split
  · exact .refl s
  · exact (works_alert _ _ _).after rfl

theorem works_dwellSync (s : State) : Works s s.dwellSync := works_of (by simp [queues])

theorem works_cancelSwap (s : State) (reason : Nat) : Works s (s.cancelSwap reason) := by
  unfold State.cancelSwap
  split
  · exact .refl s
  · next w hw => exact .endsSwap _ _ _ hw

theorem works_enterHeld (s : State) (c : HoldCause) (b : Bool) : Works s (s.enterHeld c b) := by
  have hholding : Works s (holding s c b) := works_of (by simp [queues, holding])
  have hreleased : Works s (released s c b) :=
    ((hholding.trans (works_cancelSwap _ 0)).trans (works_endBalancing _ .hold)).upTo rfl
  rw [enterHeld_eq]
  exact (hreleased.trans (works_callSetpoint _)).trans (works_alert _ _ _)

theorem works_handCause (s : State) (c : HoldCause) : Works s (s.handCause c) := by
  unfold State.handCause
  split
  · exact .refl s
  · exact works_enterHeld s c false
  · split <;> exact works_of (by simp [queues])

theorem works_leaveForConfig (s : State) : Works s s.leaveForConfig := by
  have hswap : Works s (State.cancelSwap { s with op := .config, gate := false } 1) :=
    (works_cancelSwap _ 1).after rfl
  have hstop (u : State) : Works u u.stopSequencer := works_of rfl
  have hcauses (u : State) : Works u u.emptyCauses := (works_changeCauses u .stop Causes.none none).upTo rfl
  have hleaving : Works s (leaving s) :=
    (((hswap.trans (hstop _)).trans (hcauses _)).trans (works_endBalancing _ .stop)).upTo rfl
  exact hleaving.trans (works_callSetpoint _)

/-! ## Evaluations -/

theorem works_handOver (s : State) (r : Summary) (a : StepAddr) (e : StepEntry) : Works s (s.handOver r a e) := by
  let k := (s.recordHandOver (some r) a e).compute
  have hcomputed : Works s { s.recordHandOver (some r) a e with path.computation := some k } := works_of (by simp [queues])
  exact (hcomputed.trans (works_balanceDecision _ r e.permission _ k.mode)).trans (works_transport _ _)

/-- A swap that is applied moves the sequencer, and its SWAP is answered OK (R38, R42). -/
theorem works_applySwap {s : State} {w : PendingSwap} (target : StepAddr) (hw : s.seqr.swap = some w) :
    Works s (s.applySwap w target) := by
  refine (Works.endsSwap w.seq .ok [.bank (some w.bank), .step (some target), .step (some target),
    .mark s.seqr.goto.isSome] hw).upTo ?_
  simp [queues, State.applySwap, State.answerAt, State.updateHeld, State.withHeld]

theorem works_stageSwap (s : State) : Works s s.stageSwap.1 := by
  unfold State.stageSwap
  split
  · exact .refl s
  · next w hw =>
    dsimp only
    split
    · exact .endsSwap _ _ _ hw
    · split
      · exact .endsSwap _ _ _ hw
      · exact works_applySwap _ hw

theorem works_stageCauses (s : State) (r : Summary) : Works s (s.stageCauses r) :=
  (works_changeCauses s _ _ _).trans (works_dwellSync _)

theorem works_announce (s : State) (r : Summary) (x : Option Entered) : Works s (s.announce r x) := by
  unfold State.announce
  split
  · split
    · exact works_alert s _ _
    · exact .refl s
  · exact .refl s

theorem works_stageStep (s : State) (r : Summary) : Works s (s.stageStep r).state :=
  works_of (by simp [queues])

theorem works_afterStage2 (s : State) (r : Summary) (b : Option Entered) : Works s (s.afterStage2 r b) := by
  have hstep := works_stageStep s r
  unfold State.afterStage2
  revert hstep
  cases s.stageStep r with
  | blocked s3 target => exact fun hstep => hstep.trans (works_handCause _ _)
  | ok s3 x =>
    intro hstep
    dsimp only
    split
    · exact hstep
    · exact hstep.trans (works_handCause _ _)
    · exact hstep.trans (((works_announce _ _ _).trans (works_handOver _ _ _ _)).after rfl)

theorem works_roundEvaluation (s : State) (r : Summary) : Works s (s.roundEvaluation r) := by
  rw [State.roundEvaluation_eq]
  exact ((works_stageSwap s).trans (works_stageCauses _ r)).trans (works_afterStage2 _ r _)

theorem works_evaluateLast (s : State) : Works s s.evaluateLast.1 := by
  unfold State.evaluateLast
  dsimp only
  split
  · exact works_dwellSync s
  · exact (works_dwellSync s).trans (works_handCause _ _)
  · split
    · exact (works_dwellSync s).trans ((works_handOver _ _ _ _).after rfl)
    · exact (works_dwellSync s).trans (works_of (by simp [queues]))

theorem works_evaluateEntry (s : State) : Works s s.evaluateEntry.1 := by
  unfold State.evaluateEntry
  dsimp only
  split
  · exact works_evaluateLast s
  · split
    · exact (works_evaluateLast s).trans (works_callSetpoint _)
    · exact works_evaluateLast s

theorem works_eventCause (s : State) (c : EventCause) : Works s (s.eventCause c) := by
  unfold State.eventCause
  dsimp only
  split
  · exact .refl s
  · split
    · exact (works_changeCauses s _ _ _).trans (works_evaluateLast _)
    · exact works_changeCauses s _ _ _

/-! ## Frames from the nodes -/

theorem works_breach (s : State) (c : CellId) (q : Byte) (p : Bool) (b : HoldKind × Int) :
    Works s (s.breach c q p b) := by
  unfold State.breach
  split
  · exact works_of (by simp [queues])
  · exact works_handCause s _

theorem works_breaches (s : State) (c : CellId) (q : Byte) (p : Bool) (l : List (HoldKind × Int)) :
    Works s (l.foldl (fun t b => t.breach c q p b) s) := by
  induction l generalizing s with
  | nil => exact .refl s
  | cons b l ih => exact (works_breach s c q p b).trans (ih _)

theorem works_contribute (s : State) (c : CellId) (k : Contribution) : Works s (s.contribute c k) := by
  have hround (u : State) (k l : Contribution) : Works u (u.completeRound k l) := by
    unfold State.completeRound
    dsimp only
    split
    · exact (works_roundEvaluation _ _).after rfl
    · exact works_of rfl
  unfold State.contribute
  dsimp only
  split
  · exact (hround _ _ _).after rfl
  · exact works_of (by simp [queues])

theorem works_takeSample (s : State) (c : CellId) (f : SampleFrame) (p : Bool) : Works s (s.takeSample c f p) := by
  unfold State.takeSample
  dsimp only
  split
  · exact .refl s
  · have hcompare (u : State) (x : Bool) : Works u (u.compareBleed c x) :=
      works_of (by simp [queues])
    have hcounted (u : State) (l : List (HoldKind × Int)) :=
      ((works_breaches u c f.seq p l).trans (works_countShuttle _ c (clampInterval f.interval) f.balance.toInt)).trans
        (hcompare _ (sampleBleeding f))
    split
    · exact ((hcounted _ _).trans (works_contribute _ c _)).after rfl
    · exact (hcounted _ _).after rfl

theorem works_takeInput (s : State) (f : InputFrame) : Works s (s.takeInput f) := by
  unfold State.takeInput
  split
  · exact .refl s
  · exact (works_judgePresence _).after rfl

theorem works_takeStage (s : State) (f : StageFrame) (p : Bool) : Works s (s.takeStage f p) := by
  have hreport (b : Bool) : Works s (s.enterReport f b) := by
    unfold State.enterReport
    dsimp only
    split
    · exact (works_releaseNode _ _).after rfl
    · exact works_of (by simp [queues])
  unfold State.takeStage
  dsimp only
  split
  · exact hreport _
  · exact (hreport _).trans (works_handCause _ _)

theorem works_goodFrameD (s : State) : Works s s.goodFrameD := works_of (by simp [queues])

theorem works_badFrameD (s : State) : Works s s.badFrameD := by
  unfold State.badFrameD
  dsimp only
  split
  · exact (works_eventCause _ _).after rfl
  · exact works_of (by simp [queues])

/-- A frame that is no REPLY, as received: passed where its route entry says so (R174, R176). -/
theorem works_forwardPlain (s : State) (p : Pass) {f : Frame} (hkind : f.kind ≠ kindReply) :
    Works s (s.forwardPlain p f) := by
  unfold State.forwardPlain
  split
  · exact .refl s
  · exact .passes rfl (by simpa [UpFrame.nodeReply] using hkind)

theorem works_routeSample (s : State) (c : CellId) (f : SampleFrame) : Works s (s.routeSample c f) := by
  have hkind : (sampleToFrame c f).kind ≠ kindReply := by simp [sampleToFrame, kindSample, kindReply]
  have hforward (u : State) (p : Pass) (b : Bool) : Works u (u.forwardSample p c f b) := by
    unfold State.forwardSample
    split
    · exact .passes rfl (by simpa [UpFrame.nodeReply, annotate] using hkind)
    · exact works_forwardPlain u p hkind
  unfold State.routeSample
  dsimp only
  refine Works.trans ?_ (hforward _ _ _)
  split
  · exact (works_takeSample _ _ _ _).after rfl
  · exact works_of (by simp [queues])

theorem works_sample (s : State) (c : CellId) (f : SampleFrame) (fold : Bool) :
    Works s (State.routeSample { s.goodFrameD with fold := fold } c f) :=
  (works_goodFrameD s).trans ((works_routeSample _ c f).after rfl)

theorem works_routeInput (s : State) (f : InputFrame) : Works s (s.routeInput f) := by
  unfold State.routeInput
  dsimp only
  refine Works.trans ?_ (works_forwardPlain _ _ (by simp [inputToFrame, kindInput, kindReply]))
  split
  · exact (works_takeInput _ _).after rfl
  · exact works_of (by simp [queues])

theorem works_routeStage (s : State) (f : StageFrame) : Works s (s.routeStage f) := by
  unfold State.routeStage
  dsimp only
  refine Works.trans ?_ (works_forwardPlain _ _ (by simp [stageToFrame, kindStage, kindReply]))
  split
  · exact (works_takeStage _ _ _).after rfl
  · exact works_of (by simp [queues])

/-! ## Timers -/

theorem works_expireWait (s : State) : Works s s.expireWait := by
  unfold State.expireWait
  split
  · exact .refl s
  · next c hc =>
    split
    · exact .refuses _ _ hc
    · exact .refl s

theorem works_expireAnswer (s : State) : Works s s.expireAnswer := by
  unfold State.expireAnswer
  dsimp only
  split
  · split <;> exact ((works_releaseNode _ _).trans (works_handCause _ _)).after rfl
  · exact .refl s

theorem works_expireStaleness (s : State) (x : TimedRecord) : Works s (s.expireStaleness x) := by
  unfold State.expireStaleness
  cases x with
  | cell c =>
    dsimp only
    split
    · exact (works_eventCause _ _).after rfl
    · exact .refl s
  | input =>
    dsimp only
    split
    · exact (works_judgePresence _).after rfl
    · exact .refl s

theorem works_expireDwell (s : State) : Works s s.expireDwell := by
  unfold State.expireDwell
  dsimp only
  split
  · split
    · split
      · exact (works_callSetpoint _).after rfl
      · exact works_of (by simp [queues])
    · exact works_of (by simp [queues])
  · exact .refl s

theorem works_expireTimeLimit (s : State) : Works s s.expireTimeLimit := by
  unfold State.expireTimeLimit
  dsimp only
  split
  · split
    · exact ((works_endShuttle _ _).trans (works_callSetpoint _)).after rfl
    · exact (works_endShuttle _ _).after rfl
  · exact .refl s

/-! ## Commands to the hub -/

/-- A command that acts at the hub is answered, after what it did otherwise, or recorded as the pending swap (R36, R161). -/
inductive Concludes (s : State) (c : HeldCommand) : State → Prop
  | answered {u : State} (status : Status) (results : List Field) : Works s u → Concludes s c (u.answer c status results)
  | recorded (w : PendingSwap) : w.place = c.place → Concludes s c { s with seqr.swap := some w }

/-- A command refused, or answered from what stands. -/
theorem concludes_answer (s : State) (c : HeldCommand) (status : Status) (results : List Field) :
    Concludes s c (s.answer c status results) := .answered status results (.refl s)

@[simp] theorem setBank_swap (q : Sequencer) (id : BankId) (b : Bank) : (q.setBank id b).swap = q.swap := by
  cases id <;> rfl

@[simp] theorem setEntry_queues (s : State) (a : StepAddr) (e : Option StepEntry) :
    (s.setEntry a e).cmd = s.cmd ∧ (s.setEntry a e).out = s.out ∧ (s.setEntry a e).link = s.link
      ∧ (s.setEntry a e).seqr.swap = s.seqr.swap :=
  ⟨rfl, rfl, rfl, setBank_swap _ _ _⟩

/-- The commands of the step banks but SWAP (R31 to R35, R63). -/
theorem concludes_steps (s : State) (c : HeldCommand) :
    (∀ bank row col e, Concludes s c (s.loadStep c bank row col e))
      ∧ (∀ bank row col, Concludes s c (s.clearEntry c bank row col)) ∧ (∀ bank, Concludes s c (s.clearBank c bank))
      ∧ (∀ bank row col, Concludes s c (s.readStep c bank row col)) ∧ ∀ row col, Concludes s c (s.takeGoto c row col) := by
  unfold State.loadStep State.clearEntry State.clearBank State.readStep State.takeGoto
  and_intros <;> intros <;> (repeat' split) <;> exact .answered _ _ (works_of (by simp [queues]))

/-- SWAP is refused, or recorded without a reply (R36). -/
theorem concludes_takeSwap (s : State) (c : HeldCommand) (bank : Byte) (target : Option (Byte × Byte)) :
    Concludes s c (s.takeSwap c bank target) := by
  unfold State.takeSwap
  split
  · exact concludes_answer s c _ _
  · split
    · split
      · exact concludes_answer s c _ _
      · exact .recorded _ rfl
    · exact concludes_answer s c _ _

/-- LOAD_TABLE writes its table and answers. -/
theorem concludes_loadTable (s : State) (c : HeldCommand) :
    (∀ i v, Concludes s c (s.loadCell c i v)) ∧ (∀ i v w, Concludes s c (s.loadOcv c i v w))
      ∧ (∀ i v w, Concludes s c (s.loadDerate c i v w)) ∧ (∀ i v, Concludes s c (s.loadGuard c i v))
      ∧ (∀ i v, Concludes s c (s.loadLimit c i v)) ∧ (∀ i v, Concludes s c (s.loadBalance c i v))
      ∧ ∀ i v, Concludes s c (s.loadRoute c i v) := by
  unfold State.loadCell State.loadOcv State.loadDerate State.loadGuard State.loadLimit State.loadBalance State.loadRoute
  and_intros <;> intros <;> (repeat' split) <;> exact .answered _ _ (works_of (by simp [queues]))

/-- READ_TABLE and QUERY only answer. -/
theorem concludes_reads (s : State) (c : HeldCommand) :
    (∀ table i, Concludes s c (s.readTableAt c table i)) ∧ ∀ x y z, Concludes s c (s.takeQuery c x y z) := by
  unfold State.readTableAt State.readCell State.readOcv State.readDerate State.readGuard State.readLimit State.readBalance
    State.readRoute State.takeQuery
  dsimp only
  and_intros <;> intros <;> (repeat' split) <;> exact concludes_answer s c _ _

/-- The supply offer, LOCK, SET_CHARGE and BALANCE BLEED write their records and answer. -/
theorem concludes_settings (s : State) (c : HeldCommand) :
    (∀ v i cls, Concludes s c (s.takeOffer c v i cls)) ∧ Concludes s c (s.takeAccept c) ∧ Concludes s c (s.takeWithdraw c)
      ∧ Concludes s c (s.takeLock c) ∧ (∀ cell content, Concludes s c (s.takeSetCharge c cell content))
      ∧ ∀ cell setting, Concludes s c (s.takeBleed c cell setting) := by
  unfold State.takeOffer State.takeAccept State.takeWithdraw State.takeLock State.takeSetCharge State.takeBleed
  dsimp only
  and_intros <;> intros <;> (repeat' split) <;> exact .answered _ _ (works_of (by simp [queues]))

theorem concludes_takeShip (s : State) (c : HeldCommand) : Concludes s c (s.takeShip c) := by
  unfold State.takeShip
  split
  · exact concludes_answer s c _ _
  · split
    · exact concludes_answer s c _ _
    · exact .answered _ _ ((works_callSetpoint _).after rfl)

theorem concludes_takeStart (s : State) (c : HeldCommand) (bank row col : Byte) :
    Concludes s c (s.takeStart c bank row col) := by
  have hsteps (a : StepAddr) : Works s (s.startSteps a) := by
    refine Works.trans ?_ (works_changeCauses _ .start _ none)
    exact works_of (by simp [queues])
  unfold State.takeStart
  split
  · exact concludes_answer s c _ _
  · split
    · exact concludes_answer s c _ _
    · split
      · exact concludes_answer s c _ _
      · exact .answered _ _ ((hsteps _).trans (works_evaluateEntry _))

theorem concludes_takeStop (s : State) (c : HeldCommand) : Concludes s c (s.takeStop c) := by
  unfold State.takeStop
  split
  · exact concludes_answer s c _ _
  · exact .answered _ _ (works_leaveForConfig s)

theorem concludes_takeOverride (s : State) (c : HeldCommand) (code : Byte) : Concludes s c (s.takeOverride c code) := by
  unfold State.takeOverride
  split
  · exact concludes_answer s c _ _
  · split
    · exact .answered _ _ ((works_eventCause _ _).after rfl)
    · split
      · exact .answered _ _ (works_of rfl)
      · exact concludes_answer s c _ _

theorem concludes_takeHold (s : State) (c : HeldCommand) (code : Option Word) : Concludes s c (s.takeHold c code) := by
  unfold State.takeHold
  split
  · exact concludes_answer s c _ _
  · exact .answered _ _ (works_handCause s _)

theorem concludes_resumeRun (s : State) (c : HeldCommand) (d : Disposition) (p : Placing) :
    Concludes s c (s.resumeRun c d p) := by
  have hplace : Works s ((s.acceptResume d).place p) := by
    cases p with
    | keep => exact works_of rfl
    | fresh a =>
      have hfresh : Works (s.acceptResume d) ((s.acceptResume d).enterFresh a) := works_of (by simp [queues])
      exact hfresh.after rfl
  unfold State.resumeRun
  dsimp only
  split
  · exact .answered _ _ (hplace.trans ((works_enterHeld _ _ _).after rfl))
  · exact .answered _ _ (hplace.trans ((works_evaluateEntry _).after rfl))

theorem concludes_takeResume (s : State) (c : HeldCommand) (d : Byte) : Concludes s c (s.takeResume c d) := by
  unfold State.takeResume
  split
  · exact concludes_answer s c _ _
  split
  · exact concludes_resumeRun s c _ _
  split
  · exact concludes_resumeRun s c _ _
  split
  · split
    · exact concludes_resumeRun s c _ _
    · exact concludes_answer s c _ _
  split
  · exact .answered _ _ ((works_leaveForConfig _).after rfl)
  · exact concludes_answer s c _ _

theorem concludes_takeResumeStep (s : State) (c : HeldCommand) (row col : Byte) :
    Concludes s c (s.takeResumeStep c row col) := by
  unfold State.takeResumeStep
  split
  · exact concludes_answer s c _ _
  · split
    · exact concludes_resumeRun s c _ _
    · exact concludes_answer s c _ _

theorem concludes_takeShuttle (s : State) (c : HeldCommand) (cell : Byte) (given : Option (Word × Byte)) :
    Concludes s c (s.takeShuttle c cell given) := by
  have hstart (k : CellId) (q : Nat) : Works s (s.hostShuttle k q) :=
    Works.trans (works_of (by simp [queues])) (works_callSetpoint _)
  unfold State.takeShuttle
  split
  · exact concludes_answer s c _ _
  · split
    · split
      · exact concludes_answer s c _ _
      · exact .answered _ _ (hstart _ _)
    · exact concludes_answer s c _ _

theorem concludes_takeBalanceStop (s : State) (c : HeldCommand) : Concludes s c (s.takeBalanceStop c) := by
  have hstop : Works s s.stopBalancing := by
    unfold State.stopBalancing
    dsimp only
    split
    · exact (works_endBalancing s _).trans (works_callSetpoint _)
    · exact works_endBalancing s _
  unfold State.takeBalanceStop
  split
  · exact .answered _ _ hstop
  · exact concludes_answer s c _ _

/-- Every command to the hub is answered or recorded as the pending swap (R36, R161). -/
theorem concludes_act (s : State) (c : HeldCommand) (k : HubCommand) : Concludes s c (s.act c k) := by
  obtain ⟨hload, hclear, hbank, hread, hgoto⟩ := concludes_steps s c
  obtain ⟨hcell, hocv, hderate, hguard, hlimit, hbalance, hroute⟩ := concludes_loadTable s c
  obtain ⟨htable, hquery⟩ := concludes_reads s c
  obtain ⟨hoffer, haccept, hwithdraw, hlock, hcharge, hbleed⟩ := concludes_settings s c
  cases k with
  | loadStep bank row col e => exact hload bank row col e
  | clearEntry bank row col => exact hclear bank row col
  | clearBank bank => exact hbank bank
  | readStep bank row col => exact hread bank row col
  | loadCell i v => exact hcell i v
  | loadOcv i v w => exact hocv i v w
  | loadDerate i v w => exact hderate i v w
  | loadGuard i v => exact hguard i v
  | loadLimit i v => exact hlimit i v
  | loadBalance i v => exact hbalance i v
  | loadRoute i v => exact hroute i v
  | readTable table i => exact htable table i
  | lock => exact hlock
  | start bank row col => exact concludes_takeStart s c bank row col
  | stop => exact concludes_takeStop s c
  | swap bank target => exact concludes_takeSwap s c bank target
  | goto row col => exact hgoto row col
  | override code => exact concludes_takeOverride s c code
  | hold code => exact concludes_takeHold s c code
  | resume d => exact concludes_takeResume s c d
  | resumeStep row col => exact concludes_takeResumeStep s c row col
  | offer v i cls => exact hoffer v i cls
  | accept => exact haccept
  | withdraw => exact hwithdraw
  | ship => exact concludes_takeShip s c
  | shuttle cell amount => exact concludes_takeShuttle s c cell amount
  | bleed cell setting => exact hbleed cell setting
  | balanceStop => exact concludes_takeBalanceStop s c
  | setCharge cell content => exact hcharge cell content
  | query selector argument part => exact hquery selector argument part
  | badArguments => exact concludes_answer s c _ _
  | unknown => exact concludes_answer s c _ _

/-! ## Every step as one event with its end -/

/-- What an event does before its end is examined (R158): the work on the commands held, or an event that takes a COMMAND in, a
reset, a frame sent on port U, a node's REPLY, or a node timeout. -/
inductive Effect (s : State) : State → Prop
  | works {t : State} : Works s t → Effect s t
  | accepts (dest src : Address) (seq : Byte) (payload : List Byte) : Effect s (s.accept dest src seq payload)
  | resets (seq : Byte) : Effect s (s.takeReset seq)
  | sent : Effect s s.sentU
  | nodeReplies (n : NodeId) (dest : Address) (seq : Byte) (payload : List Byte) :
      Effect s (s.goodFrameD.takeNodeReply n dest seq payload)
  | nodeTimesOut (n : NodeId) : Effect s (s.expireNode n)

theorem effect_arriveCommand (s : State) (dest src : Address) (seq : Byte) (payload : List Byte) :
    Effect s (s.arriveCommand dest src seq payload) := by
  unfold State.arriveCommand
  split
  · exact .resets seq
  · exact .accepts dest src seq payload

/-- A law that power-on establishes and that each event and each millisecond keeps. The commands that wait to be taken, which are
the model's own (log 1), are no concern of it. -/
structure KeptToEnd (P : State → Prop) : Prop where
  pending : ∀ {s : State} (l : List Instr), P s → P { s with pending := l }
  powerOn : ∀ s : State, P { State.reset with pending := s.pending, fold := s.fold }
  settles : ∀ {s t : State}, P s → Effect s t → P t.settle
  tick : ∀ {s : State}, P s → P s.tick

namespace KeptToEnd

variable {P : State → Prop} (h : KeptToEnd P) {s : State}

include h

theorem event {f : State → State} (hs : P s) (hf : ∀ u, Effect u (f u)) : Events.EndsIn P (s.event f) := by
  refine ⟨_, rfl, ?_⟩
  split
  · exact hs
  · exact h.settles hs (hf s)

theorem works {f : State → State} (hs : P s) (hf : ∀ u, Works u (f u)) : Events.EndsIn P (s.event f) :=
  h.event hs fun u => .works (hf u)

/-- Every row of the table keeps the law: a row that names a command to the hub is the arrival of its COMMAND (log 1). -/
theorem exec (i : Instr) (hs : P s) : Events.EndsIn P (exec i s) := by
  cases i with
  | powerOnOrRst => exact ⟨_, rfl, h.powerOn s⟩
  | rstRelease =>
    refine ⟨_, rfl, ?_⟩
    split
    · exact h.settles hs (.works ((works_callSetpoint _).after rfl))
    · exact hs
  | portUBadFrame => exact h.works hs fun u => .refl u
  | portDBadFrame => exact h.works hs fun u => works_badFrameD u
  | unfitFrame => exact h.works hs fun u => works_goodFrameD u
  | otherFrameOnPortU => exact h.works hs fun u => .refl u
  | reset seq => exact h.event hs fun u => .resets seq
  | sample c f fold => exact h.works hs fun u => works_sample u c f fold
  | input f => exact h.works hs fun u => (works_goodFrameD u).trans (works_routeInput _ f)
  | stage f => exact h.works hs fun u => (works_goodFrameD u).trans (works_routeStage _ f)
  | nodeReply n dest seq payload => exact h.event hs fun u => .nodeReplies n dest seq payload
  | waitLimitExpiry => exact h.works hs fun u => works_expireWait u
  | nodeTimeout n => exact h.event hs fun u => .nodeTimesOut n
  | answerTimeout => exact h.works hs fun u => works_expireAnswer u
  | stalenessExpiry x => exact h.works hs fun u => works_expireStaleness u x
  | restExpiry c => exact h.works hs (f := fun u => u.expireRest c) fun u => works_of (by simp [queues])
  | dwellExpiry => exact h.works hs fun u => works_expireDwell u
  | timeLimitExpiry => exact h.works hs fun u => works_expireTimeLimit u
  | cooldownExpiry => exact h.works hs fun u => works_of rfl
  | portUFrameSent => exact h.event hs fun u => .sent
  | portDFrameSent => exact h.works hs fun u => works_of (by simp [queues])
  | _ => exact h.event hs fun u => effect_arriveCommand u _ _ _ _

/-- A law that each event and each millisecond keeps is kept by every step. -/
theorem of_step {t : State} (hs : P s) (ht : step s = .next t) : P t := by
  have hend : Events.EndsIn P (step s) := by
    unfold step
    split
    · unfold State.idle
      split
      · exact ⟨_, rfl, hs⟩
      · split
        · exact ⟨_, rfl, h.tick hs⟩
        · exact h.exec _ hs
    · exact h.exec _ (h.pending _ hs)
  obtain ⟨u, hu, hP⟩ := hend
  obtain rfl : u = t := by simpa [ht] using hu.symm
  exact hP

end KeptToEnd

end Sys2Proof.CommandQueue
end

section
/-! SUPPORT. The end of an event: commands issue until none waits or the head is blocked, so every step leaves the hub settled
(R155, R156, R158, R159, R180). -/

namespace Sys2Proof.CommandQueue

open Sys2Proof.Machine Sys2Proof.Sequencing Sys2Proof.PowerPath

/-! ## Places and the commands that wait -/

/-- The places of the held commands, in the order of the queue (log 15). -/
def places (s : State) : List Nat := s.cmd.held.map (·.place)

/-- How many held commands wait to issue (R155). -/
def waiting (s : State) : Nat := s.cmd.held.countP (·.state = .waiting)

theorem mem_of_head {s : State} {c : HeldCommand} (h : s.head = some c) : c ∈ s.cmd.held ∧ c.state = .waiting :=
  ⟨List.mem_of_find?_eq_some h, by simpa using List.find?_some h⟩

theorem head_none_of_waiting {s : State} (h : waiting s = 0) : s.head = none := by
  simpa [State.head, waiting] using h

theorem places_of_held {s t : State} (h : t.cmd.held = s.cmd.held) : places t = places s := by rw [places, places, h]

theorem waiting_of_held {s t : State} (h : t.cmd.held = s.cmd.held) : waiting t = waiting s := by rw [waiting, waiting, h]

theorem places_updateHeld (s : State) (p : Nat) (f : HeldCommand → HeldCommand) (hf : ∀ c, (f c).place = c.place) :
    places (s.updateHeld p f) = places s := by
  simp only [places, State.updateHeld, State.withHeld, List.map_map]
  refine List.map_congr_left fun c _ => ?_
  rw [Function.comp_apply]
  split
  · exact hf c
  · rfl

theorem countP_change_le {l : List HeldCommand} (p : Nat) {f : HeldCommand → HeldCommand}
    (hf : ∀ c, (f c).state ≠ .waiting) :
    (l.map fun c => if c.place = p then f c else c).countP (·.state = .waiting) ≤ l.countP (·.state = .waiting) := by
  rw [List.countP_map]
  refine List.countP_mono_left fun c _ hc => ?_
  rw [Function.comp_apply] at hc
  split at hc
  · exact absurd (of_decide_eq_true hc) (hf c)
  · exact hc

/-- A change that leaves no command at a place waiting lets none begin to wait. -/
theorem waiting_updateHeld_le (s : State) (p : Nat) {f : HeldCommand → HeldCommand}
    (hf : ∀ c, (f c).state ≠ .waiting) : waiting (s.updateHeld p f) ≤ waiting s := countP_change_le p hf

/-- Where a command did wait at the place, one fewer waits. -/
theorem waiting_updateHeld_lt {s : State} {c : HeldCommand} {f : HeldCommand → HeldCommand}
    (hf : ∀ c, (f c).state ≠ .waiting) (hc : s.head = some c) : waiting (s.updateHeld c.place f) < waiting s := by
  obtain ⟨hmem, hwaits⟩ := mem_of_head hc
  obtain ⟨l, r, hl⟩ := List.append_of_mem hmem
  have hleft := countP_change_le (l := l) c.place hf
  have hright := countP_change_le (l := r) c.place hf
  simp only [waiting, State.updateHeld, State.withHeld, hl, List.map_append, List.map_cons, List.countP_append,
    List.countP_cons, if_true, hwaits, hf c, decide_true, decide_false, Bool.false_eq_true, if_false]
  omega

/-- From `s` to `t` each command keeps its place, and none begins to wait. -/
def Progresses (s t : State) : Prop := places t = places s ∧ waiting t ≤ waiting s

theorem progresses_of_held {s t : State} (h : t.cmd.held = s.cmd.held) : Progresses s t :=
  ⟨places_of_held h, (waiting_of_held h).le⟩

theorem Progresses.trans {s t u : State} (h : Progresses s t) (h' : Progresses t u) : Progresses s u :=
  ⟨h'.1.trans h.1, h'.2.trans h.2⟩

theorem progresses_updateHeld (s : State) (p : Nat) (f : HeldCommand → HeldCommand)
    (hplace : ∀ c, (f c).place = c.place) (hstate : ∀ c, (f c).state ≠ .waiting) : Progresses s (s.updateHeld p f) :=
  ⟨places_updateHeld s p f hplace, waiting_updateHeld_le s p hstate⟩

theorem replied_state (c : HeldCommand) : c.replied.state ≠ .waiting := nofun

theorem forwarded_state (c : HeldCommand) : c.forwarded.state ≠ .waiting := nofun

theorem issued_state (c : HeldCommand) : c.issued.state ≠ .waiting := nofun

theorem forwardCommand_held (s : State) (c : HeldCommand) (n : NodeId) :
    (s.forwardCommand c n).cmd.held = (s.updateHeld c.place HeldCommand.forwarded).cmd.held := by
  simp [State.forwardCommand]

theorem progresses_answerAt (s : State) (p : Nat) (echo : Byte) (status : Status) (results : List Field) :
    Progresses s (s.answerAt p echo status results) :=
  (progresses_updateHeld s p HeldCommand.replied (fun _ => rfl) replied_state).trans (progresses_of_held rfl)

theorem Works.progresses {s t : State} (h : Works s t) : Progresses s t := by
  induction h with
  | same h => exact progresses_of_held h.held
  | endsSwap echo status results _ => exact progresses_answerAt _ _ echo status results
  | @forwards s c n _ _ =>
    have hforwarded := progresses_updateHeld s c.place HeldCommand.forwarded (fun _ => rfl) forwarded_state
    exact hforwarded.trans (progresses_of_held (forwardCommand_held s c n))
  | refuses status results _ => exact progresses_answerAt _ _ _ status results
  | passes _ _ => exact progresses_of_held (by simp)
  | trans _ _ ih ih' => exact ih.trans ih'

theorem Concludes.progresses {s t : State} {c : HeldCommand} (h : Concludes s c t) : Progresses s t := by
  cases h with
  | answered status results h => exact h.progresses.trans (progresses_answerAt _ _ _ status results)
  | recorded w _ => exact progresses_of_held rfl

/-- The head issues: it waits no longer, and none begins to wait (R155, R158). -/
theorem issue_progresses {s : State} {c : HeldCommand} (hc : s.head = some c) :
    places (s.issue c) = places s ∧ waiting (s.issue c) < waiting s := by
  unfold State.issue
  split
  · obtain ⟨hplaces, hwaiting⟩ := (concludes_act (s.updateHeld c.place HeldCommand.issued) c
      (parseCommand c.payload)).progresses
    exact ⟨hplaces.trans (places_updateHeld s _ _ fun _ => rfl),
      lt_of_le_of_lt hwaiting (waiting_updateHeld_lt issued_state hc)⟩
  · split
    · next n _ =>
      have hheld := forwardCommand_held s c n
      exact ⟨(places_of_held hheld).trans (places_updateHeld s _ _ fun _ => rfl),
        lt_of_eq_of_lt (waiting_of_held hheld) (waiting_updateHeld_lt forwarded_state hc)⟩
    · exact ⟨places_updateHeld s _ _ fun _ => rfl, waiting_updateHeld_lt (s := s) replied_state hc⟩

/-! ## The end of an event -/

/-- No frame waits while port U is idle (R180). -/
def PortsWork (s : State) : Prop := s.link.sendingU = none → s.out = ⟨[], [], []⟩

theorem portsWork_arbitrate (s : State) : PortsWork s.arbitrate := by
  unfold PortsWork State.arbitrate
  split
  · next u hu => exact fun hidle => absurd (hu.symm.trans hidle) nofun
  · split
    · exact fun hidle => absurd hidle nofun
    · exact fun hidle => absurd hidle nofun
    · exact fun hidle => absurd hidle nofun
    · next ha hr hf =>
      intro _
      rw [← ha, ← hr, ← hf]

/-- Starting the wait timer at a place changes no command but in its timer, so the head stays the head. -/
theorem head_startWait {s : State} {c : HeldCommand} (hc : s.head = some c) :
    (s.updateHeld c.place HeldCommand.startWait).head = some c.startWait := by
  have hstate : ∀ d : HeldCommand, (if d.place = c.place then d.startWait else d).state = d.state := by
    intro d
    split <;> rfl
  simp only [State.head, State.updateHeld, State.withHeld, List.find?_map, Function.comp_def, hstate] at hc ⊢
  rw [hc]
  simp

/-- With fuel for every command that waits, the head is examined until none waits or it is blocked (R158, R159). -/
theorem settled_drain (n : Nat) {s : State} (hn : waiting s ≤ n) (hports : PortsWork s) (hplaces : (places s).Nodup) :
    (s.drain n).settled := by
  induction n generalizing s with
  | zero =>
    have hnone : s.head = none := head_none_of_waiting (by omega)
    exact ⟨hports, by simp [State.drain, hnone], hplaces⟩
  | succ n ih =>
    unfold State.drain
    split
    · next hnone => exact ⟨hports, by simp [hnone], hplaces⟩
    · next c hc =>
      split
      · next r hblocked =>
        refine ⟨hports, ?_, by rw [← places, places_updateHeld]; exacts [hplaces, fun _ => rfl]⟩
        rintro d hd
        obtain rfl : c.startWait = d := by simpa [head_startWait hc] using hd
        exact ⟨Option.isSome_of_eq_some hblocked, rfl⟩
      · obtain ⟨hsame, hfewer⟩ := issue_progresses hc
        have hheld := arbitrate_held (s.issue c)
        refine ih ?_ (portsWork_arbitrate _) ?_
        · rw [waiting_of_held hheld]
          omega
        · rw [places_of_held hheld, hsame]
          exact hplaces

/-- The end of an event leaves the hub settled, whatever the event did. -/
theorem settled_settle {s : State} (h : (places s).Nodup) : s.settle.settled := by
  have hheld := arbitrate_held s
  refine settled_drain _ ?_ (portsWork_arbitrate s) (by rwa [places_of_held hheld])
  rw [waiting_of_held hheld]
  exact List.countP_le_length

/-! ## Places across an event -/

theorem places_accept {s : State} (dest src : Address) (seq : Byte) (payload : List Byte) (h : (places s).Nodup) :
    (places (s.accept dest src seq payload)).Nodup := by
  unfold State.accept
  split
  · next hlen =>
    simp only [places, State.withHeld, List.map_append, List.map_cons, List.map_nil]
    refine h.append (List.nodup_singleton _) ?_
    refine List.disjoint_singleton.mpr fun hmem => ?_
    obtain ⟨c, hc, hplace⟩ := List.mem_map.mp hmem
    exact freePlace_free hlen c hc hplace
  · exact h

theorem takeReset_held (s : State) (seq : Byte) : (s.takeReset seq).cmd.held = [] := by
  simp [State.takeReset, State.softReset, State.resetBalance, State.resetPath, State.resetGuard, State.resetSequencer,
    State.resetCells, State.resetRoutes, State.resetQueues]

theorem Effect.places_nodup {s t : State} (h : Effect s t) (hs : (places s).Nodup) : (places t).Nodup := by
  cases h with
  | works h => rwa [h.progresses.1]
  | accepts dest src seq payload => exact places_accept dest src seq payload hs
  | resets seq => simp [places, takeReset_held]
  | sent =>
    unfold State.sentU
    split
    · exact hs
    · dsimp only
      split
      · exact hs
      · exact hs.sublist (List.filter_sublist.map _)
  | nodeReplies n dest seq payload =>
    unfold State.takeNodeReply
    split
    · rw [(works_releaseNode _ n).progresses.1, places_updateHeld _ _ HeldCommand.replied fun _ => rfl]
      simpa [places] using hs
    · simpa [places] using hs
  | nodeTimesOut n =>
    unfold State.expireNode
    split
    · rwa [(works_releaseNode _ n).progresses.1, (progresses_answerAt _ _ _ _ _).1]
    · exact hs

/-! ## A millisecond -/

theorem tick_place? (e : NodeEntry) : e.tick.place? = e.place? ∧ (e.tick = .empty ↔ e = .empty) := by
  cases e <;> simp [NodeEntry.tick, NodeEntry.place?]

theorem blockedOn_tick (s : State) (c : HeldCommand) : s.tick.blockedOn c.tick = s.blockedOn c := by
  have hreserved : ∀ r, s.tick.reserved r = s.reserved r := by
    intro r
    cases r with
    | banks => rfl
    | shuttle => rfl
    | node n => cases n <;> exact decide_eq_decide.mpr (not_congr (tick_place? _).2)
  have hwaits : s.tick.waitsOn c.tick = s.waitsOn c := rfl
  simp only [State.blockedOn, hwaits, hreserved]

theorem settled_tick {s : State} (h : s.settled) : s.tick.settled := by
  obtain ⟨hports, hhead, hplaces⟩ := h
  have htick : s.tick.head = s.head.map HeldCommand.tick := by
    simp only [State.head, State.tick, List.find?_map]
    rfl
  refine ⟨hports, ?_, ?_⟩
  · rw [htick]
    rintro d hd
    obtain ⟨c, hc, rfl⟩ := Option.mem_map.mp hd
    obtain ⟨hblocked, hwait⟩ := hhead c hc
    exact ⟨by rwa [blockedOn_tick], by simpa [HeldCommand.tick] using hwait⟩
  · simpa [State.tick, Function.comp_def, HeldCommand.tick] using hplaces

/-! ## Every step -/

/-- The end of each event settles the hub, and no event makes two places one. -/
theorem settled_kept : KeptToEnd State.settled where
  pending _ h := h
  powerOn s := ⟨fun _ => rfl, by simp [State.head, State.reset], List.nodup_nil⟩
  settles h heffect := settled_settle (heffect.places_nodup h.2.2)
  tick := settled_tick

/-- Settles O47: an event keeps the places distinct (`Effect.places_nodup`), and its end issues commands until none waits or the
head is blocked, for which the queue's length suffices (`settled_drain`). -/
theorem stepKeepsSettled : Obligations.StepKeepsSettled := fun _ _ h ht => settled_kept.of_step h ht

end Sys2Proof.CommandQueue
end

section
/-! SUPPORT. Who answers for which held command: each place is answered for once, by a frame on its way, by a node's entry, by the
pending swap, or by the command itself that waits or acts; so the queues keep their bounds (R155, R156, R162 to R164, R178,
R179). -/

namespace Sys2Proof.CommandQueue

open Sys2Proof.Machine Sys2Proof.Sequencing Sys2Proof.PowerPath

/-! ## The command at a place -/

/-- A held command at a place, of which `P` holds. -/
def At (s : State) (p : Nat) (P : HeldCommand → Prop) : Prop := ∃ c ∈ s.cmd.held, c.place = p ∧ P c

theorem At.imp {s : State} {p : Nat} {P Q : HeldCommand → Prop} (h : At s p P) (hPQ : ∀ c, P c → Q c) : At s p Q := by
  obtain ⟨c, hc, hp, hP⟩ := h
  exact ⟨c, hc, hp, hPQ c hP⟩

theorem At.of_held {s t : State} {p : Nat} {P : HeldCommand → Prop} (h : At s p P) (hheld : t.cmd.held = s.cmd.held) :
    At t p P := by rwa [At, hheld]

/-- With distinct places, commands that differ in what holds of them are at different places. -/
theorem At.ne {s : State} {p q : Nat} {P Q : HeldCommand → Prop} (hp : At s p P) (hplaces : (places s).Nodup)
    (hq : At s q Q) (hPQ : ∀ c, P c → ¬ Q c) : q ≠ p := by
  rintro rfl
  obtain ⟨c, hc, hcq, hP⟩ := hp
  obtain ⟨d, hd, hdq, hQ⟩ := hq
  obtain rfl : c = d := List.inj_on_of_nodup_map hplaces hc hd (hcq.trans hdq.symm)
  exact hPQ c hP hQ

theorem at_head {s : State} {c : HeldCommand} (hc : s.head = some c) : At s c.place fun d => d = c ∧ d.state = .waiting := by
  obtain ⟨hmem, hwaits⟩ := mem_of_head hc
  exact ⟨c, hmem, rfl, rfl, hwaits⟩

/-- From `s` to `t` the held command at a place changes by `f`, and no other. -/
structure Changes (s t : State) (p : Nat) (f : HeldCommand → HeldCommand) : Prop where
  held : t.cmd.held = (s.updateHeld p f).cmd.held
  place : ∀ c, (f c).place = c.place

theorem Changes.places {s t : State} {p : Nat} {f : HeldCommand → HeldCommand} (h : Changes s t p f) :
    places t = places s := (places_of_held h.held).trans (places_updateHeld s p f h.place)

theorem Changes.other {s t : State} {p q : Nat} {f : HeldCommand → HeldCommand} {P : HeldCommand → Prop}
    (h : Changes s t p f) (hq : At s q P) (hne : q ≠ p) : At t q P := by
  obtain ⟨c, hc, rfl, hP⟩ := hq
  rw [At, h.held]
  exact ⟨c, List.mem_map.mpr ⟨c, hc, if_neg hne⟩, rfl, hP⟩

theorem Changes.self {s t : State} {p : Nat} {f : HeldCommand → HeldCommand} {P Q : HeldCommand → Prop}
    (h : Changes s t p f) (hp : At s p P) (hPQ : ∀ c, P c → Q (f c)) : At t p Q := by
  obtain ⟨c, hc, rfl, hP⟩ := hp
  rw [At, h.held]
  exact ⟨f c, List.mem_map.mpr ⟨c, hc, if_pos rfl⟩, h.place c, hPQ c hP⟩

/-! ## Who stands for a command -/

/-- The law of answers, for every node (R155, R161, R163, R164). -/
structure Accounted (s : State) : Prop where
  distinct : (places s).Nodup
  once : s.answering.Nodup
  replied : ∀ p ∈ s.answering, At s p (·.state = .replied)
  atNode : ∀ n, ∀ p ∈ (s.cmd.nodes.get n).place?, At s p fun c => c.state = .atNode ∧ nodeOf c.dest = some n
  issued : ∀ w ∈ s.seqr.swap, At s w.place (·.state = .issued)

theorem accounted_iff (s : State) : s.answerLaw ↔ Accounted s := by
  refine ⟨fun ⟨hdistinct, honce, hreplied, hnode, hissued⟩ => ⟨hdistinct, honce, hreplied, fun n => ?_, hissued⟩,
    fun ⟨hdistinct, honce, hreplied, hnode, hissued⟩ => ⟨hdistinct, honce, hreplied, fun n _ => hnode n, hissued⟩⟩
  exact hnode n (by cases n <;> simp)

/-- Nothing stands for the command at a place: no frame that answers it, no node's entry, no pending swap. -/
structure Loose (s : State) (p : Nat) : Prop where
  answering : p ∉ s.answering
  nodes : ∀ n, p ∉ (s.cmd.nodes.get n).place?
  swap : ∀ w ∈ s.seqr.swap, w.place ≠ p

theorem Accounted.loose_waiting {s : State} {p : Nat} (h : Accounted s) (hp : At s p (·.state = .waiting)) : Loose s p where
  answering hmem := hp.ne h.distinct (h.replied p hmem) (fun c hc => by simp [hc]) rfl
  nodes n hmem := hp.ne h.distinct (h.atNode n p hmem) (fun c hc => by simp [hc]) rfl
  swap w hw := hp.ne h.distinct (h.issued w hw) fun c hc => by simp [hc]

/-- The command at a place acts: it is ISSUED, and not the pending swap's (R36, R155). -/
def Acting (s : State) (p : Nat) : Prop := At s p (·.state = .issued) ∧ ∀ w ∈ s.seqr.swap, w.place ≠ p

theorem Accounted.loose_acting {s : State} {p : Nat} (h : Accounted s) (hp : Acting s p) : Loose s p where
  answering hmem := hp.1.ne h.distinct (h.replied p hmem) (fun c hc => by simp [hc]) rfl
  nodes n hmem := hp.1.ne h.distinct (h.atNode n p hmem) (fun c hc => by simp [hc]) rfl
  swap := hp.2

theorem nodup_of_subperm {l m : List Nat} (h : l.Subperm m) (hm : m.Nodup) : l.Nodup := by
  obtain ⟨k, hk, hsub⟩ := h
  exact hk.nodup_iff.mp (hm.sublist hsub)

/-- Frames, entries and a swap may cease to stand for a command, and frames may move on their way to port U. -/
theorem Accounted.fewer {s t : State} (h : Accounted s) (hheld : t.cmd.held = s.cmd.held)
    (hanswering : t.answering.Subperm s.answering)
    (hnodes : ∀ n, ∀ p ∈ (t.cmd.nodes.get n).place?, p ∈ (s.cmd.nodes.get n).place?)
    (hswap : ∀ w ∈ t.seqr.swap, w ∈ s.seqr.swap) : Accounted t where
  distinct := by rw [places_of_held hheld]; exact h.distinct
  once := nodup_of_subperm hanswering h.once
  replied p hp := (h.replied p (hanswering.subset hp)).of_held hheld
  atNode n p hp := (h.atNode n p (hnodes n p hp)).of_held hheld
  issued w hw := (h.issued w (hswap w hw)).of_held hheld

/-- The command at a loose place changes, and whatever stands for it then is as the law says. -/
theorem Accounted.changes {s t : State} {p : Nat} {f : HeldCommand → HeldCommand} (h : Accounted s)
    (hchanges : Changes s t p f) (hloose : Loose s p) (honce : t.answering.Nodup)
    (hanswering : ∀ q ∈ t.answering, q ∈ s.answering ∨ q = p ∧ At t p (·.state = .replied))
    (hnodes : ∀ n, ∀ q ∈ (t.cmd.nodes.get n).place?, q ∈ (s.cmd.nodes.get n).place?
      ∨ q = p ∧ At t p fun c => c.state = .atNode ∧ nodeOf c.dest = some n)
    (hswap : t.seqr.swap = s.seqr.swap) : Accounted t where
  distinct := by rw [hchanges.places]; exact h.distinct
  once := honce
  replied q hq := by
    obtain hq | ⟨rfl, hat⟩ := hanswering q hq
    · exact hchanges.other (h.replied q hq) fun heq => hloose.answering (heq ▸ hq)
    · exact hat
  atNode n q hq := by
    obtain hq | ⟨rfl, hat⟩ := hnodes n q hq
    · exact hchanges.other (h.atNode n q hq) fun heq => hloose.nodes n (heq ▸ hq)
    · exact hat
  issued w hw := by
    rw [hswap] at hw
    exact hchanges.other (h.issued w hw) (hloose.swap w hw)

/-- A loose place is answered for by one frame more. -/
theorem Accounted.answered {s t : State} {p : Nat} (h : Accounted s) (hchanges : Changes s t p HeldCommand.replied)
    (hloose : Loose s p) (hat : At s p fun _ => True) (hanswering : t.answering.Subperm (p :: s.answering))
    (hnodes : t.cmd.nodes = s.cmd.nodes) (hswap : t.seqr.swap = s.seqr.swap) : Accounted t := by
  refine h.changes hchanges hloose (nodup_of_subperm hanswering (List.nodup_cons.mpr ⟨hloose.answering, h.once⟩)) (fun q hq => ?_)
    (fun n q hq => .inl (by rwa [hnodes] at hq)) hswap
  obtain rfl | hq := List.mem_cons.mp (hanswering.subset hq)
  · exact .inr ⟨rfl, hchanges.self hat fun _ _ => rfl⟩
  · exact .inl hq

/-! ## The bounds of the queues -/

/-- The law of the queues: the bounds, and the law of answers, from which the bound on the replies follows. -/
structure Bounded (s : State) : Prop where
  held : s.cmd.held.length ≤ 4
  kinds : (s.out.alerts.map (·.kind)).Nodup
  resets : (s.out.replies.filter fun r => r.answers.isNone).length ≤ 1
  forward : s.out.forward.length ≤ 8
  nodeReplies : ∀ u ∈ s.out.forward, u.nodeReply = true → u.answers.isSome
  accounted : Accounted s

/-- The frames on their way answer held commands, each another one. -/
theorem Accounted.answering_length {s : State} (h : Accounted s) : s.answering.length ≤ s.cmd.held.length := by
  have hsub : s.answering ⊆ places s := fun p hp => by
    obtain ⟨c, hc, hplace, -⟩ := h.replied p hp
    exact List.mem_map.mpr ⟨c, hc, hplace⟩
  simpa [places] using (h.once.subperm hsub).length_le

theorem queueLaw_iff (s : State) : s.queueLaw ↔ Bounded s := by
  refine ⟨fun ⟨hheld, hkinds, _, hresets, hforward, hnode, hanswers⟩ =>
    ⟨hheld, hkinds, hresets, hforward, hnode, (accounted_iff s).mp hanswers⟩,
    fun ⟨hheld, hkinds, hresets, hforward, hnode, hanswers⟩ =>
    ⟨hheld, hkinds, ?_, hresets, hforward, hnode, (accounted_iff s).mpr hanswers⟩⟩
  have hanswered := hanswers.answering_length
  have hsplit := List.length_eq_countP_add_countP (fun r : Reply => r.answers.isNone) (l := s.out.replies)
  simp only [State.answering, List.length_append, List.length_filterMap_eq_countP] at hanswered
  rw [← List.countP_eq_length_filter] at hresets
  have hsome : (fun r : Reply => decide ¬ r.answers.isNone = true) = fun r => r.answers.isSome := by
    funext r
    cases r.answers <;> rfl
  rw [hsome] at hsplit
  omega

/-- A frame discarded from the forward queue leaves the others in their order (R178). -/
theorem discardOne_sublist (q : List UpFrame) : (discardOne q).Sublist q := by
  unfold discardOne
  split <;> exact List.eraseP_sublist

/-- A full forward queue holds a frame that may be discarded: were all of them node REPLYs, more than four commands would be
answered for (R163, R178). -/
theorem discardOne_length {s : State} (h : Bounded s) (hfull : 4 < s.out.forward.length) :
    (discardOne s.out.forward).length = s.out.forward.length - 1 := by
  unfold discardOne
  split
  · next hany =>
    obtain ⟨u, hu, hmeasured⟩ := List.any_eq_true.mp hany
    exact List.length_eraseP_of_mem hu hmeasured
  · by_cases hall : ∀ u ∈ s.out.forward, u.nodeReply = true
    · have hanswered := h.accounted.answering_length
      have hcount : s.out.forward.countP (fun u => u.answers.isSome) = s.out.forward.length :=
        List.countP_eq_length.mpr fun u hu => h.nodeReplies u hu (hall u hu)
      have hheld := h.held
      simp only [State.answering, List.length_append, List.length_filterMap_eq_countP, hcount] at hanswered
      omega
    · obtain ⟨u, hu, hother⟩ : ∃ u ∈ s.out.forward, ¬ u.nodeReply = true := by simpa using hall
      exact List.length_eraseP_of_mem hu (by simpa using hother)

/-- The forward queue after room has been made for a frame (R178). -/
def roomed (s : State) : List UpFrame :=
  if s.out.forward.length < Config.forwardMax then s.out.forward else discardOne s.out.forward

theorem placeForward_forward (s : State) (u : UpFrame) : (s.placeForward u).out.forward = roomed s ++ [u] := rfl

theorem roomed_sublist (s : State) : (roomed s).Sublist s.out.forward := by
  unfold roomed
  split
  · exact .refl _
  · exact discardOne_sublist _

theorem roomed_length {s : State} (h : Bounded s) : (roomed s).length ≤ 7 := by
  have hmax := h.forward
  unfold roomed
  split
  · next hlt => exact Nat.lt_succ_iff.mp hlt
  · next hfull =>
    have hfull' : 8 ≤ s.out.forward.length := not_lt.mp hfull
    rw [discardOne_length h (by omega)]
    omega

theorem placeForward_length {s : State} (h : Bounded s) (u : UpFrame) : (s.placeForward u).out.forward.length ≤ 8 := by
  have hroom := roomed_length h
  simp only [placeForward_forward, List.length_append, List.length_singleton]
  omega

theorem placeForward_nodeReplies {s : State} (h : Bounded s) {u : UpFrame} (hu : u.nodeReply = true → u.answers.isSome) :
    ∀ v ∈ (s.placeForward u).out.forward, v.nodeReply = true → v.answers.isSome := by
  intro v hv
  rw [placeForward_forward, List.mem_append, List.mem_singleton] at hv
  obtain hv | rfl := hv
  · exact h.nodeReplies v ((roomed_sublist s).subset hv)
  · exact hu

theorem placeForward_answering (s : State) (u : UpFrame) :
    (s.placeForward u).answering.Subperm (u.answers.toList ++ s.answering) := by
  have hforward := (roomed_sublist s).filterMap (·.answers)
  have hu : [u].filterMap (·.answers) = u.answers.toList := by cases h : u.answers <;> simp [h]
  have hsub : (s.out.replies.filterMap (·.answers) ++ (roomed s).filterMap (·.answers)
      ++ s.link.sendingU.toList.filterMap (·.answers)).Sublist s.answering :=
    ((List.Sublist.refl _).append hforward).append (.refl _)
  have hperm : (s.placeForward u).answering.Perm (u.answers.toList ++ (s.out.replies.filterMap (·.answers)
      ++ (roomed s).filterMap (·.answers) ++ s.link.sendingU.toList.filterMap (·.answers))) := by
    simp only [State.answering, placeForward_forward, List.filterMap_append, hu, State.placeForward_frame,
      List.append_assoc]
    exact (List.Perm.append_left _ (List.perm_append_comm_assoc _ _ _)).trans (List.perm_append_comm_assoc _ _ _)
  exact hperm.subperm.trans ((List.Sublist.refl _).append hsub).subperm

/-! ## The work of an event -/

theorem Bounded.same {s t : State} (h : Bounded s) (hsame : SameQueues s t) : Bounded t where
  held := by rw [hsame.held]; exact h.held
  kinds := hsame.alerts h.kinds
  resets := by rw [hsame.replies]; exact h.resets
  forward := by rw [hsame.forward]; exact h.forward
  nodeReplies := by rw [hsame.forward]; exact h.nodeReplies
  accounted := by
    refine h.accounted.fewer hsame.held ?_ hsame.nodes (fun w hw => by rwa [hsame.swap] at hw)
    rw [State.answering, hsame.replies, hsame.forward, hsame.sending]
    exact .refl _

/-- A loose place is answered by a hub reply (R161, R162). -/
theorem Bounded.answerAt {s : State} {p : Nat} (h : Bounded s) (hloose : Loose s p) (hat : At s p fun _ => True)
    (echo : Byte) (status : Status) (results : List Field) : Bounded (s.answerAt p echo status results) where
  held := by simpa [State.answerAt, State.updateHeld, State.withHeld] using h.held
  kinds := h.kinds
  resets := by simpa [State.answerAt] using h.resets
  forward := h.forward
  nodeReplies := h.nodeReplies
  accounted := by
    refine h.accounted.answered ⟨rfl, fun _ => rfl⟩ hloose hat ?_ rfl rfl
    simp only [State.answering, State.answerAt, State.updateHeld_frame, List.filterMap_append, List.filterMap_cons,
      List.filterMap_nil, List.append_assoc]
    exact (List.perm_middle).subperm

/-- A loose place is answered by a forwarded frame, a node's REPLY (R164). -/
theorem Bounded.nodeReplied {s : State} {p : Nat} {u : UpFrame} (h : Bounded s) (hu : u.answers = some p)
    (hloose : Loose s p) (hat : At s p fun _ => True) :
    Bounded ((s.placeForward u).updateHeld p HeldCommand.replied) where
  held := by simpa [State.updateHeld, State.withHeld] using h.held
  kinds := h.kinds
  resets := h.resets
  forward := placeForward_length h u
  nodeReplies := placeForward_nodeReplies h fun _ => by simp [hu]
  accounted := by
    have hanswering := placeForward_answering s u
    rw [hu] at hanswering
    exact h.accounted.answered ⟨rfl, fun _ => rfl⟩ hloose hat hanswering rfl rfl

/-- The head goes to a node, whose entry then stands for it (R163, R164). -/
theorem Bounded.forwardCommand {s : State} {c : HeldCommand} {n : NodeId} (h : Bounded s) (hc : s.head = some c)
    (hn : nodeOf c.dest = some n) : Bounded (s.forwardCommand c n) := by
  have hchanges : Changes s (s.forwardCommand c n) c.place HeldCommand.forwarded :=
    ⟨forwardCommand_held s c n, fun _ => rfl⟩
  have hans : (s.forwardCommand c n).answering = s.answering := by simp [State.answering]
  have hnodes : (s.forwardCommand c n).cmd.nodes = s.cmd.nodes.set n (.command c.place c.seq 0) := by
    simp [State.forwardCommand]
  refine ⟨?_, by simpa using h.kinds, by simpa using h.resets, by simpa using h.forward, by simpa using h.nodeReplies, ?_⟩
  · have hlength := congrArg List.length hchanges.places
    simp only [places, List.length_map] at hlength
    rw [hlength]
    exact h.held
  · refine h.accounted.changes hchanges (h.accounted.loose_waiting ((at_head hc).imp fun _ hd => hd.2))
      (by rw [hans]; exact h.accounted.once) (fun q hq => .inl (by rwa [hans] at hq)) (fun m q hq => ?_) (by simp)
    rw [hnodes, nodes_get_set] at hq
    split at hq
    · next hm =>
      obtain rfl : c.place = q := by simpa [NodeEntry.place?] using hq
      refine .inr ⟨rfl, hchanges.self (at_head hc) ?_⟩
      rintro d ⟨rfl, -⟩
      exact ⟨rfl, hm ▸ hn⟩
    · exact .inl hq

/-- A frame of a node, passed to port U (R174, R178). -/
theorem Bounded.passes {s : State} {u : UpFrame} (h : Bounded s) (hnone : u.answers = none) (hkind : u.nodeReply = false) :
    Bounded (s.placeForward u) where
  held := h.held
  kinds := h.kinds
  resets := h.resets
  forward := placeForward_length h u
  nodeReplies := placeForward_nodeReplies h fun hreply => absurd hreply (by simp [hkind])
  accounted := by
    refine h.accounted.fewer rfl ?_ (fun _ _ hp => hp) fun _ hw => hw
    simpa [hnone] using placeForward_answering s u

/-- The pending swap is removed: its command then acts, and nothing stands for it (R38 to R40). -/
theorem Bounded.swapRemoved {s : State} {w : PendingSwap} (h : Bounded s) (hw : s.seqr.swap = some w) :
    Bounded { s with seqr.swap := none } ∧ Loose { s with seqr.swap := none } w.place := by
  have hremoved : Accounted { s with seqr.swap := none } :=
    h.accounted.fewer rfl (.refl _) (fun _ _ hp => hp) fun v hv => absurd hv (Option.not_mem_none v)
  exact ⟨⟨h.held, h.kinds, h.resets, h.forward, h.nodeReplies, hremoved⟩,
    hremoved.loose_acting ⟨h.accounted.issued w hw, fun v hv => absurd hv (Option.not_mem_none v)⟩⟩

/-- The work of an event keeps the law of the queues, and leaves a command that acts as it is. -/
theorem Works.bounded {s t : State} (hworks : Works s t) (h : Bounded s) :
    Bounded t ∧ ∀ p, Acting s p → Acting t p := by
  induction hworks with
  | same hsame => exact ⟨h.same hsame, fun p ⟨hat, hswap⟩ => ⟨hat.of_held hsame.held, by rwa [hsame.swap]⟩⟩
  | @endsSwap s w echo status results hw =>
    obtain ⟨hremoved, hloose⟩ := h.swapRemoved hw
    have hchanges : Changes s (State.answerAt { s with seqr.swap := none } w.place echo status results) w.place
      HeldCommand.replied := ⟨rfl, fun _ => rfl⟩
    refine ⟨hremoved.answerAt hloose ((h.accounted.issued w hw).imp fun _ _ => trivial) echo status results,
      fun p ⟨hat, hswap⟩ => ⟨hchanges.other hat (Ne.symm (hswap w hw)), ?_⟩⟩
    exact fun v hv => absurd hv (Option.not_mem_none v)
  | @forwards s c n hc hn =>
    refine ⟨h.forwardCommand hc hn, fun p ⟨hat, hswap⟩ => ⟨?_, by simpa using hswap⟩⟩
    refine Changes.other ⟨forwardCommand_held s c n, fun _ => rfl⟩ hat ?_
    exact (at_head hc).ne h.accounted.distinct hat fun d hd => by simp [hd.2]
  | @refuses s c status results hc =>
    have hwaits : At s c.place (·.state = .waiting) := (at_head hc).imp fun _ hd => hd.2
    refine ⟨h.answerAt (h.accounted.loose_waiting hwaits) (hwaits.imp fun _ _ => trivial) c.seq status results,
      fun p ⟨hat, hswap⟩ => ⟨Changes.other ⟨rfl, fun _ => rfl⟩ hat ?_, hswap⟩⟩
    exact (at_head hc).ne h.accounted.distinct hat fun d hd => by simp [hd.2]
  | passes hnone hkind => exact ⟨h.passes hnone hkind, fun p hp => hp⟩
  | trans _ _ ih ih' =>
    obtain ⟨ht, hacting⟩ := ih h
    obtain ⟨hu, hacting'⟩ := ih' ht
    exact ⟨hu, fun p hp => hacting' p (hacting p hp)⟩

/-! ## Issue and the arbiter -/

/-- The command that acts is answered, or recorded as the pending swap. -/
theorem Concludes.bounded {s t : State} {c : HeldCommand} (hdone : Concludes s c t) (h : Bounded s)
    (hacting : Acting s c.place) : Bounded t := by
  cases hdone with
  | answered status results hworks =>
    obtain ⟨hu, hstill⟩ := hworks.bounded h
    have hacts := hstill _ hacting
    exact hu.answerAt (hu.accounted.loose_acting hacts) (hacts.1.imp fun _ _ => trivial) c.seq status results
  | recorded w hplace =>
    obtain ⟨hdistinct, honce, hreplied, hnode, -⟩ := h.accounted
    refine ⟨h.held, h.kinds, h.resets, h.forward, h.nodeReplies, hdistinct, honce, hreplied, hnode, fun v hv => ?_⟩
    obtain rfl : w = v := by simpa using hv
    exact hplace ▸ hacting.1

/-- A change at a loose place of a command that nothing then stands for. -/
theorem Bounded.changes {s : State} {p : Nat} {f : HeldCommand → HeldCommand} (h : Bounded s)
    (hplace : ∀ c, (f c).place = c.place) (hloose : Loose s p) : Bounded (s.updateHeld p f) where
  held := by simpa [State.updateHeld, State.withHeld] using h.held
  kinds := h.kinds
  resets := h.resets
  forward := h.forward
  nodeReplies := h.nodeReplies
  accounted := h.accounted.changes ⟨rfl, hplace⟩ hloose h.accounted.once (fun _ hq => .inl hq) (fun _ _ hq => .inl hq) rfl

theorem Bounded.issue {s : State} {c : HeldCommand} (h : Bounded s) (hc : s.head = some c) : Bounded (s.issue c) := by
  have hwaits : At s c.place (·.state = .waiting) := (at_head hc).imp fun _ hd => hd.2
  have hloose := h.accounted.loose_waiting hwaits
  unfold State.issue
  split
  · have hchanges : Changes s (s.updateHeld c.place HeldCommand.issued) c.place HeldCommand.issued := ⟨rfl, fun _ => rfl⟩
    exact (concludes_act _ c _).bounded (h.changes (fun _ => rfl) hloose)
      ⟨hchanges.self hwaits fun _ _ => rfl, hloose.swap⟩
  · split
    · next n hn => exact h.forwardCommand hc hn
    · exact (Works.refuses _ _ hc).bounded h |>.1

theorem arbitrate_answering (s : State) : s.arbitrate.answering.Perm s.answering := by
  unfold State.arbitrate
  split
  · exact .refl _
  · next hidle =>
    split
    · next ha => simp [State.answering, hidle]
    · next r rest ha hr =>
      simp only [State.answering, hidle, hr, Option.toList_some, Option.toList_none, List.filterMap_cons,
        List.filterMap_nil, List.append_nil]
      cases r.answers with
      | none => simp
      | some p => exact List.perm_append_singleton _ _
    · next u rest ha hr hf =>
      simp only [State.answering, hidle, hr, hf, Option.toList_some, Option.toList_none, List.filterMap_cons,
        List.filterMap_nil, List.append_nil, List.nil_append]
      cases u.answers with
      | none => simp
      | some p => exact List.perm_append_singleton _ _
    · exact .refl _

/-- What the arbiter takes leaves the front of its queue (R180). -/
theorem arbitrate_queues (s : State) :
    s.arbitrate.out.alerts <:+ s.out.alerts ∧ s.arbitrate.out.replies <:+ s.out.replies
      ∧ s.arbitrate.out.forward <:+ s.out.forward := by
  unfold State.arbitrate
  split
  · simp
  · split
    · next ha => simp [ha]
    · next ha hr => simp [hr]
    · next ha hr hf => simp [hf]
    · simp

theorem Bounded.arbitrate {s : State} (h : Bounded s) : Bounded s.arbitrate := by
  obtain ⟨halerts, hreplies, hforward⟩ := arbitrate_queues s
  refine ⟨by simpa using h.held, h.kinds.sublist (halerts.sublist.map _),
    (hreplies.sublist.filter _).length_le.trans h.resets, hforward.length_le.trans h.forward,
    fun u hu => h.nodeReplies u (hforward.subset hu), ?_⟩
  exact h.accounted.fewer (arbitrate_held s) (arbitrate_answering s).subperm (fun n p hp => by simpa using hp)
    fun w hw => by simpa using hw

theorem Bounded.drain {s : State} (n : Nat) (h : Bounded s) : Bounded (s.drain n) := by
  induction n generalizing s with
  | zero => exact h
  | succ n ih =>
    unfold State.drain
    split
    · exact h
    · next c hc =>
      split
      · exact h.changes (fun _ => rfl) (h.accounted.loose_waiting ((at_head hc).imp fun _ hd => hd.2))
      · exact ih (h.issue hc).arbitrate

theorem Bounded.settle {s : State} (h : Bounded s) : Bounded s.settle := h.arbitrate.drain _

/-! ## The other effects of an event -/

theorem Bounded.accept {s : State} (h : Bounded s) (dest src : Address) (seq : Byte) (payload : List Byte) :
    Bounded (s.accept dest src seq payload) := by
  have hplaces := places_accept dest src seq payload h.accounted.distinct
  unfold State.accept at hplaces ⊢
  split at hplaces
  · next hlen =>
    rw [if_pos hlen]
    have hgrows {p : Nat} {P : HeldCommand → Prop} (hat : At s p P) :
        At (s.withHeld (s.cmd.held ++ [⟨s.freePlace, dest, src, seq, payload, .waiting, none⟩])) p P := by
      obtain ⟨c, hc, hp, hP⟩ := hat
      exact ⟨c, List.mem_append_left _ hc, hp, hP⟩
    refine ⟨?_, h.kinds, h.resets, h.forward, h.nodeReplies, hplaces, h.accounted.once,
      fun p hp => hgrows (h.accounted.replied p hp), fun n p hp => hgrows (h.accounted.atNode n p hp),
      fun w hw => hgrows (h.accounted.issued w hw)⟩
    simp only [State.withHeld, List.length_append, List.length_singleton]
    exact hlen
  · next hlen =>
    rw [if_neg hlen]
    exact ⟨h.held, h.kinds, h.resets, h.forward, h.nodeReplies, h.accounted.fewer rfl (.refl _) (fun _ _ hp => hp)
      fun _ hw => hw⟩

/-- The hub with every block soft-reset, before its setpoint is called for (R168). -/
def cleared (s : State) : State :=
  { s.resetHold.resetQueues.resetRoutes.resetCells.resetSequencer.resetGuard.resetPath with op := .config, gate := false }

theorem softReset_eq (s : State) : s.softReset = (cleared s).callSetpoint.resetBalance := rfl

/-- A reset empties the queues, the node entries and the pending swap, and the frame being sent answers no command (R168). -/
theorem cleared_queues (s : State) :
    (cleared s).cmd.held = [] ∧ (cleared s).out = ⟨[], [], []⟩ ∧ (∀ n, ((cleared s).cmd.nodes.get n).place? = none)
      ∧ (cleared s).seqr.swap = none ∧ (cleared s).answering = [] := by
  refine ⟨rfl, rfl, fun n => by cases n <;> rfl, rfl, ?_⟩
  have hsending : (cleared s).link.sendingU = s.link.sendingU.map fun u => { u with answers := none } := rfl
  have hout : (cleared s).out = ⟨[], [], []⟩ := rfl
  rw [State.answering, hsending, hout]
  cases s.link.sendingU <;> rfl

theorem bounded_cleared (s : State) : Bounded (cleared s) := by
  obtain ⟨hheld, hout, hnodes, hswap, hanswering⟩ := cleared_queues s
  refine ⟨by simp [hheld], by simp [hout], by simp [hout], by simp [hout], by simp [hout], by simp [places, hheld],
    by simp [hanswering], by simp [hanswering], fun n => by simp [hnodes], by simp [hswap]⟩

theorem works_resetBalance (s : State) : Works s s.resetBalance :=
  works_of (by simp [queues, State.resetBalance])

/-- The reset's own reply answers no held command (R168). -/
theorem bounded_takeReset (s : State) (seq : Byte) : Bounded (s.takeReset seq) := by
  have hworks : Works (cleared s) s.softReset := (works_callSetpoint _).trans (works_resetBalance _)
  have hreset := (hworks.bounded (bounded_cleared s)).1
  obtain ⟨-, hempty, -⟩ := cleared_queues s
  have hout : s.softReset.out = ⟨[], [], []⟩ := by simp [softReset_eq, State.resetBalance, hempty]
  have hanswering : (s.takeReset seq).answering = s.softReset.answering := by
    simp [State.answering, State.takeReset, hout]
  exact ⟨hreset.held, hreset.kinds, Nat.le_refl 1, hreset.forward, hreset.nodeReplies,
    hreset.accounted.fewer rfl (by rw [hanswering]) (fun _ _ hp => hp) fun _ hw => hw⟩

/-- The command that the frame sent answers leaves the queue (R155, R180). -/
theorem Bounded.sentU {s : State} (h : Bounded s) : Bounded s.sentU := by
  unfold State.sentU
  split
  · exact h
  · next u hu =>
    dsimp only
    have hans : s.answering = State.answering { s with link.sendingU := none } ++ u.answers.toList := by
      cases hu' : u.answers <;> simp [State.answering, hu, hu']
    split
    · next hnone =>
      refine ⟨h.held, h.kinds, h.resets, h.forward, h.nodeReplies, h.accounted.fewer rfl ?_ (fun _ _ hp => hp) fun _ hw => hw⟩
      rw [hans]
      exact (List.sublist_append_left _ _).subperm
    · next p hp =>
      rw [hp, Option.toList_some] at hans
      have honce := h.accounted.once
      rw [hans, ← List.concat_eq_append, List.nodup_concat] at honce
      have hreplied : At s p (·.state = .replied) := h.accounted.replied p (by simp [hans])
      have hstays {q : Nat} {P : HeldCommand → Prop} (hq : At s q P) (hne : q ≠ p) :
          At (State.withHeld { s with link.sendingU := none } (s.cmd.held.filter fun c => c.place ≠ p)) q P := by
        obtain ⟨c, hc, rfl, hP⟩ := hq
        exact ⟨c, List.mem_filter.mpr ⟨hc, by simpa using hne⟩, rfl, hP⟩
      refine ⟨(List.length_filter_le _ _).trans h.held, h.kinds, h.resets, h.forward, h.nodeReplies,
        h.accounted.distinct.sublist (List.filter_sublist.map _), honce.2, fun q hq => ?_, fun n q hq => ?_, fun w hw => ?_⟩
      · refine hstays (h.accounted.replied q ?_) fun heq => honce.1 (heq ▸ hq)
        rw [hans]
        exact List.mem_append_left _ hq
      · have hat := h.accounted.atNode n q hq
        exact hstays hat (hreplied.ne h.accounted.distinct hat fun c hc => by simp [hc])
      · have hat := h.accounted.issued w hw
        exact hstays hat (hreplied.ne h.accounted.distinct hat fun c hc => by simp [hc])

/-- Once a node's entry is emptied, nothing stands for the command it stood for (R163). -/
theorem Bounded.freed {s : State} {n : NodeId} {p : Nat} {q : Byte} {ms : Nat} (h : Bounded s)
    (hentry : s.cmd.nodes.get n = .command p q ms) :
    Bounded (freed s n) ∧ Loose (freed s n) p ∧ At (freed s n) p fun _ => True := by
  have hfreed := ((works_freed s n).bounded h).1
  have hat : At s p fun c => c.state = .atNode ∧ nodeOf c.dest = some n :=
    h.accounted.atNode n p (by simp [hentry, NodeEntry.place?])
  refine ⟨hfreed, ⟨fun hmem => ?_, fun m hmem => ?_, fun w hw => ?_⟩, hat.imp fun _ _ => trivial⟩
  · exact hat.ne h.accounted.distinct (h.accounted.replied p hmem) (fun c hc => by simp [hc.1]) rfl
  · by_cases hm : m = n
    · subst hm
      simp [PowerPath.freed, nodes_get_set, NodeEntry.place?] at hmem
    · have hother := hfreed.accounted.atNode m p hmem
      exact hat.ne h.accounted.distinct hother (fun c hc hc' => hm (Option.some.inj (hc'.2.symm.trans hc.2))) rfl
  · exact hat.ne h.accounted.distinct (h.accounted.issued w hw) fun c hc => by simp [hc.1]

/-- A node's REPLY answers the command that the node's entry stood for (R164). -/
theorem Bounded.takeNodeReply {s : State} (h : Bounded s) (n : NodeId) (dest : Address) (seq : Byte) (payload : List Byte) :
    Bounded (s.takeNodeReply n dest seq payload) := by
  unfold State.takeNodeReply
  split
  · next p q ms hentry =>
    obtain ⟨hfreed, hloose, hat⟩ := h.freed hentry
    have hworks := works_released ((s.placeForward ⟨⟨dest, nodeAddress n, kindReply, seq, payload⟩, some p⟩).updateHeld p
      HeldCommand.replied) n
    exact (hworks.bounded (hfreed.nodeReplied rfl hloose hat)).1
  · exact ⟨h.held, h.kinds, h.resets, h.forward, h.nodeReplies, h.accounted.fewer rfl (.refl _) (fun _ _ hp => hp)
      fun _ hw => hw⟩

theorem Bounded.expireNode {s : State} (h : Bounded s) (n : NodeId) : Bounded (s.expireNode n) := by
  unfold State.expireNode
  split
  · next p q ms hentry =>
    obtain ⟨hfreed, hloose, hat⟩ := h.freed hentry
    have hworks := works_released (s.answerAt p q .nodeTimeout [.byte (nodeNumber n), .long Config.answerMs]) n
    exact (hworks.bounded (hfreed.answerAt hloose hat _ _ _)).1
  · exact h

theorem Effect.bounded {s t : State} (heffect : Effect s t) (h : Bounded s) : Bounded t := by
  cases heffect with
  | works hworks => exact (hworks.bounded h).1
  | accepts dest src seq payload => exact h.accept dest src seq payload
  | resets seq => exact bounded_takeReset s seq
  | sent => exact h.sentU
  | nodeReplies n dest seq payload => exact ((works_goodFrameD s).bounded h).1.takeNodeReply n dest seq payload
  | nodeTimesOut n => exact h.expireNode n

/-! ## Every step -/

theorem Bounded.tick {s : State} (h : Bounded s) : Bounded s.tick := by
  have hticks {p : Nat} {P : HeldCommand → Prop} (hP : ∀ c, P c → P c.tick) (hp : At s p P) : At s.tick p P := by
    obtain ⟨c, hc, rfl, hc'⟩ := hp
    exact ⟨c.tick, List.mem_map_of_mem hc, rfl, hP c hc'⟩
  have hnodes (n : NodeId) : (s.tick.cmd.nodes.get n).place? = (s.cmd.nodes.get n).place? := by
    cases n <;> exact (tick_place? _).1
  refine ⟨by simpa [State.tick] using h.held, h.kinds, h.resets, h.forward, h.nodeReplies,
    by simpa [places, State.tick, Function.comp_def, HeldCommand.tick] using h.accounted.distinct, h.accounted.once,
    fun p hp => hticks (fun _ hc => hc) (h.accounted.replied p hp), fun n p hp => ?_,
    fun w hw => hticks (fun _ hc => hc) (h.accounted.issued w hw)⟩
  rw [hnodes] at hp
  exact hticks (fun _ hc => hc) (h.accounted.atNode n p hp)

theorem bounded_powerOn (s : State) : Bounded { State.reset with pending := s.pending, fold := s.fold } :=
  ⟨Nat.zero_le _, List.nodup_nil, Nat.zero_le _, Nat.zero_le _, fun u hu => absurd hu List.not_mem_nil, List.nodup_nil,
    List.nodup_nil, fun p hp => absurd hp List.not_mem_nil, fun n p hp => by cases n <;> exact absurd hp (Option.not_mem_none p),
    fun w hw => absurd hw (Option.not_mem_none w)⟩

theorem bounded_kept : KeptToEnd Bounded where
  pending _ h := ⟨h.held, h.kinds, h.resets, h.forward, h.nodeReplies, h.accounted.fewer rfl (.refl _) (fun _ _ hp => hp)
    fun _ hw => hw⟩
  powerOn := bounded_powerOn
  settles h heffect := (heffect.bounded h).settle
  tick := Bounded.tick

/-- Settles O51: each way an event changes the queues keeps the law of answers (`Works.bounded`, `Effect.bounded`), and so do issue
and the arbiter at its end (`Bounded.settle`). -/
theorem stepKeepsQueues : Obligations.StepKeepsQueues := fun s t h ht =>
  (queueLaw_iff t).mpr (bounded_kept.of_step ((queueLaw_iff s).mp h) ht)

end Sys2Proof.CommandQueue
end

section
/-! SUPPORT. The command unit's part in single events: a COMMAND accepted or discarded, a node command forwarded, QUERY, and the
frames sent on the two ports (R155 to R157, R163, R164, R166, R170, R173, R180, R182). -/

namespace Sys2Proof.CommandQueue

open Sys2Proof.Machine Sys2Proof.Sequencing Sys2Proof.PowerPath Sys2Proof.Balancing

/-! ## A settled hub -/

/-- The arbiter has nothing to take where no frame waits (R180). -/
theorem arbitrate_idle {s : State} (h : PortsWork s) : s.arbitrate = s := by
  cases hu : s.link.sendingU with
  | some u => exact arbitrate_busy (by simp [hu])
  | none => simp [State.arbitrate, hu, h hu]

/-- The wait timer of a blocked head runs on (R159). -/
theorem updateHeld_startWait {s : State} {c : HeldCommand} (hc : s.head = some c) (hwait : c.wait.isSome)
    (hplaces : (places s).Nodup) : s.updateHeld c.place HeldCommand.startWait = s := by
  have hsame : ∀ d ∈ s.cmd.held, (if d.place = c.place then d.startWait else d) = d := by
    intro d hd
    split
    · next hplace =>
      obtain rfl : d = c := List.inj_on_of_nodup_map hplaces hd (mem_of_head hc).1 hplace
      obtain ⟨ms, hms⟩ := Option.isSome_iff_exists.mp hwait
      obtain ⟨_, _, _, _, _, _, _⟩ := d
      obtain rfl := hms
      rfl
    · rfl
  rw [State.updateHeld, List.map_congr_left hsame, List.map_id']
  rfl

/-- The end of an event finds nothing to do in a settled hub. -/
theorem settle_settled {s : State} (h : s.settled) : s.settle = s := by
  obtain ⟨hports, hhead, hplaces⟩ := h
  rw [State.settle, arbitrate_idle hports]
  cases hlen : s.cmd.held.length with
  | zero => rfl
  | succ n =>
    unfold State.drain
    split
    · rfl
    · next c hc =>
      obtain ⟨hblocked, hwait⟩ := hhead c hc
      obtain ⟨r, hr⟩ := Option.isSome_iff_exists.mp hblocked
      simp only [hr]
      exact updateHeld_startWait hc hwait hplaces

/-! ## A COMMAND that arrives -/

/-- An event that leaves the hub settled ends with its effect. -/
theorem event_settled {s : State} {f : State → State} (hrst : s.rst = false) (h : (f s).settled) :
    s.event f = .next (f s) := by
  simp [State.event, hrst, settle_settled h]

/-- Settles O4: acceptance changes the queue alone, and in a hub that was settled the end of the event has nothing to do
(`settle_settled`) but to start the wait timer of a command that becomes a blocked head. -/
theorem commandAcceptedOrDiscarded : Obligations.CommandAcceptedOrDiscarded := by
  intro s dest src seq payload hrst hs c
  obtain ⟨hports, hhead, hplaces⟩ := hs
  have hexec (hreset : isReset dest payload = false) :
      exec (.command dest src seq payload) s = .next (s.accept dest src seq payload).settle := by
    show s.event (fun t => t.arriveCommand dest src seq payload) = _
    simp [State.event, hrst, State.arriveCommand, hreset]
  have haccept (hlen : s.cmd.held.length < 4) : s.accept dest src seq payload = s.withHeld (s.cmd.held ++ [c]) :=
    if_pos hlen
  refine ⟨event_settled (f := fun t => t) hrst ⟨hports, hhead, hplaces⟩,
    event_settled (f := fun t => t) hrst ⟨hports, hhead, hplaces⟩,
    fun hreset hlen => ?_, fun hreset hlen hsome => ?_, fun hreset hlen hnone hblocked => ?_⟩
  · have hfull : s.accept dest src seq payload
        = { s with cmd.overrun := true, cmd.discards := min 255 (s.cmd.discards + 1) } := if_neg (not_lt.mpr hlen)
    rw [hexec hreset, hfull, settle_settled]
    exact ⟨hports, hhead, hplaces⟩
  · have hdistinct := places_accept dest src seq payload hplaces
    rw [haccept hlen] at hdistinct
    obtain ⟨d, hd⟩ := Option.isSome_iff_exists.mp hsome
    have hhead' : (s.withHeld (s.cmd.held ++ [c])).head = s.head := by
      simp only [State.head, State.withHeld] at hd ⊢
      simp [List.find?_append, hd]
    rw [hexec hreset, haccept hlen, settle_settled]
    exact ⟨hports, fun e he => hhead e (by rwa [hhead'] at he), hdistinct⟩
  · have hhead' : (s.withHeld (s.cmd.held ++ [c])).head = some c := by
      simp only [State.head, State.withHeld] at hnone ⊢
      simp [List.find?_append, hnone, c]
    obtain ⟨r, hr⟩ := Option.isSome_iff_exists.mp hblocked
    have hr' : (s.withHeld (s.cmd.held ++ [c])).blockedOn c = some r := hr
    have hports' : PortsWork (s.withHeld (s.cmd.held ++ [c])) := hports
    have hlast : (s.withHeld (s.cmd.held ++ [c])).updateHeld c.place HeldCommand.startWait
        = s.withHeld (s.cmd.held ++ [{ c with wait := some 0 }]) := by
      simp only [State.updateHeld, State.withHeld, List.map_append, map_ne (freePlace_free hlen), List.map_cons, c,
        if_true, List.map_nil]
      rfl
    have hlength : (s.withHeld (s.cmd.held ++ [c])).cmd.held.length = s.cmd.held.length + 1 := by simp
    rw [hexec hreset, haccept hlen, State.settle, arbitrate_idle hports', hlength]
    simp only [State.drain, hhead', hr', hlast]

/-! ## A command to a node -/

/-- A command to a node stands behind the frames on their way to port D, as received (R164, R170). -/
theorem forwardCommand_portD (s : State) (c : HeldCommand) (n : NodeId) :
    (s.forwardCommand c n).link.portD = s.link.portD ++ [c.frame] := by
  have hlink : (s.updateHeld c.place HeldCommand.forwarded).link = s.link := rfl
  rw [← hlink]
  exact handD_portD _ _

/-- Settles O6: no other command waits, so the command issues at once (`command_ready`), which hands its frame to port D behind
those on their way (`forwardCommand_portD`). -/
theorem nodeCommandForwarded : Obligations.NodeCommandForwarded := by
  intro s n src seq payload h hfree
  obtain ⟨-, hhead, -⟩ := ready_parts h
  let c := s.arriving (nodeAddress n) src seq payload
  have hnode : nodeOf (nodeAddress n) = some n := by cases n <;> rfl
  have hhub : nodeAddress n ≠ hubAddress := by cases n <;> decide
  have hblocked : s.blockedOn c = none := by
    simp [State.blockedOn, State.waitsOn, c, State.arriving, hhub, hnode, State.reserved, hfree]
  let held := s.arbitrate.withHeld (s.cmd.held ++ [c])
  have hissue : held.issue c = held.forwardCommand c n := by simp [State.issue, c, State.arriving, hhub, hnode]
  have hheld : (held.forwardCommand c n).cmd.held = s.cmd.held ++ [c.forwarded] := by
    rw [forwardCommand_held]
    exact congrArg (·.cmd.held) (updateHeld_last (t := held) (c := c) h rfl rfl)
  have hnone : (held.forwardCommand c n).arbitrate.head = none := by
    rw [arbitrate_head]
    simp only [State.head] at hhead ⊢
    simp [hheld, List.find?_append, hhead, HeldCommand.forwarded]
  refine ⟨(held.forwardCommand c n).arbitrate, ?_, ?_, ?_, ?_, ?_, ?_⟩
  · refine (command_ready h (by simp [isReset, hhub]) hblocked).trans ?_
    rw [hissue, drain_none _ hnone]
  · rw [arbitrate_held, hheld]
    rfl
  · simp [State.forwardCommand, held, c, State.arriving]
  · rw [arbitrate_portD, forwardCommand_portD]
    simp [LinkUnit.portD, held, c, State.arriving, HeldCommand.frame]
  · simp [held]
  · simp [State.sameBlocks, held]

/-! ## QUERY -/

/-- A selector of 0 to 5, with a cell for the cell records, selects its record (R166). -/
theorem queryRecord_selected (s : State) {selector argument : Byte} (hselector : selector.toNat ≤ 5)
    (hcell : selector = 1 → argument = 1 ∨ argument = 2) :
    ∃ fields, s.queryRecord selector argument = some fields
      ∧ (selector = 0 → fields = s.statusFields)
      ∧ (selector = 1 → ∀ c, argument.toNat = cellNumber c → fields = (s.cell c).fields)
      ∧ (selector = 2 → fields = s.cells.input.fields) ∧ (selector = 3 → fields = s.hold.fields)
      ∧ (selector = 4 → fields = s.balance.bleedFields ++ s.balance.shuttle.fields)
      ∧ (selector = 5 → fields = s.offersFields) := by
  have hcases : selector = 0 ∨ selector = 1 ∨ selector = 2 ∨ selector = 3 ∨ selector = 4 ∨ selector = 5 := by bv_omega
  rcases hcases with rfl | rfl | rfl | rfl | rfl | rfl
  · exact ⟨_, rfl, fun _ => rfl, by simp⟩
  · obtain ⟨c, hc⟩ := cellOf_some (hcell rfl)
    refine ⟨(s.cell c).fields, by simp [State.queryRecord, hc], by simp, fun _ d hd => ?_, by simp⟩
    obtain rfl : c = d := Option.some.inj (hc.symm.trans (cellOf_number hd))
    rfl
  · exact ⟨_, rfl, by simp⟩
  · exact ⟨_, rfl, by simp⟩
  · exact ⟨_, rfl, by simp⟩
  · exact ⟨_, rfl, by simp⟩

/-- Any other selector, or a cell other than 1 or 2, selects none (R166). -/
theorem queryRecord_none (s : State) {selector argument : Byte}
    (h : selector.toNat > 5 ∨ (selector = 1 ∧ argument ≠ 1 ∧ argument ≠ 2)) :
    s.queryRecord selector argument = none := by
  rcases h with h | ⟨rfl, h1, h2⟩
  · have hne (b : Byte) (hb : b.toNat ≤ 5) : selector ≠ b := by
      rintro rfl
      omega
    simp [State.queryRecord, hne]
  · simp [State.queryRecord, cellOf_none h1 h2]

/-- A part is within a record's parts exactly if it begins within its bytes (R182). -/
theorem lt_partCount_iff (bytes : List Byte) (p : Nat) : p < partCount bytes ↔ 19 * p < bytes.length := by
  simp only [partCount, Config.partBytes]
  omega

theorem takeQuery_none {s : State} (c : HeldCommand) {selector argument : Byte} (part : Byte)
    (h : s.queryRecord selector argument = none) :
    s.takeQuery c selector argument part = s.answer c .badEntry [] := by
  simp [State.takeQuery, h]

theorem takeQuery_beyond {s : State} (c : HeldCommand) {selector argument part : Byte} {fields : List Field}
    (h : s.queryRecord selector argument = some fields) (hpart : 19 * part.toNat ≥ (encodeFields fields).length) :
    s.takeQuery c selector argument part = s.answer c .badEntry [] := by
  simp only [State.takeQuery, h, lt_partCount_iff, if_neg (not_lt.mpr hpart)]

theorem takeQuery_part {s : State} (c : HeldCommand) {selector argument part : Byte} {fields : List Field}
    (h : s.queryRecord selector argument = some fields) (hpart : 19 * part.toNat < (encodeFields fields).length) :
    s.takeQuery c selector argument part
      = s.answer c .ok
          [.byte part.toNat, .byte (((encodeFields fields).length + 18) / 19),
           .raw (((encodeFields fields).drop (19 * part.toNat)).take 19)] := by
  simp only [State.takeQuery, h, lt_partCount_iff, if_pos hpart]
  rfl

theorem replied_blocks (s : State) (seq : Byte) (k : HubCommand) (status : Status) (results : List Field) :
    s.sameBlocks (s.replied seq k status results) ∧ (s.replied seq k status results).cmd.nodes = s.cmd.nodes := by
  simp [State.sameBlocks, State.replied, State.replyTo, State.withReply]

/-- Settles O40: QUERY reads the record in the state in which it acts (`queryRecord_selected`), which shows every record but the
command unit's own part of the status as it was, and only answers. -/
theorem queryAnswered : Obligations.QueryAnswered := by
  intro s seq selector argument part h k
  have hanswers {status : Status} {results : List Field}
      (ht : (s.entered seq k).takeQuery (s.heldAs seq k .waiting) selector argument part
        = (s.entered seq k).answer (s.heldAs seq k .waiting) status results) :
      exec (.query seq selector argument part) s = .next (s.replied seq k status results) :=
    hubCommand_answers h rfl rfl (blockedOn_free rfl) rfl ht
  refine ⟨fun hbad => hanswers (takeQuery_none _ part (queryRecord_none _ hbad)), fun hselector hcell => ?_⟩
  obtain ⟨fields, hfields, hstatus, hrecord, hinput, hhold, hbalance, hoffers⟩ :=
    queryRecord_selected (s.entered seq k) hselector hcell
  have hselected : (selector = 0 → encodeFields fields
        = encodeFields (s.arbitrate.withHeld (s.cmd.held ++ [s.heldAs seq k .issued])).statusFields)
      ∧ (selector = 1 → ∀ c, argument.toNat = cellNumber c → encodeFields fields = encodeFields (s.cell c).fields)
      ∧ (selector = 2 → encodeFields fields = encodeFields s.cells.input.fields)
      ∧ (selector = 3 → encodeFields fields = encodeFields s.hold.fields)
      ∧ (selector = 4 → encodeFields fields = encodeFields (s.balance.bleedFields ++ s.balance.shuttle.fields))
      ∧ (selector = 5 → encodeFields fields = encodeFields s.offersFields) := by
    refine ⟨fun h0 => by rw [hstatus h0]; rfl, fun h1 c hc => ?_, fun h2 => ?_, fun h3 => ?_, fun h4 => ?_, fun h5 => ?_⟩
    · simp [hrecord h1 c hc, State.cell]
    · simp [hinput h2]
    · simp [hhold h3]
    · simp [hbalance h4]
    · simp [hoffers h5, State.offersFields]
  by_cases hpart : 19 * part.toNat < (encodeFields fields).length
  · obtain ⟨hblocks, hnodes⟩ := replied_blocks s seq k .ok
      [.byte part.toNat, .byte (((encodeFields fields).length + 18) / 19),
       .raw (((encodeFields fields).drop (19 * part.toNat)).take 19)]
    exact ⟨_, encodeFields fields, hanswers (takeQuery_part _ hfields hpart), hblocks, hnodes,
      fun hbeyond => absurd hpart (not_lt.mpr hbeyond), fun _ => rfl, hselected⟩
  · obtain ⟨hblocks, hnodes⟩ := replied_blocks s seq k .badEntry []
    exact ⟨_, encodeFields fields, hanswers (takeQuery_beyond _ hfields (not_lt.mp hpart)), hblocks, hnodes,
      fun _ => rfl, fun hwithin => absurd hwithin hpart, hselected⟩

/-! ## The transmitters -/

theorem reply_payload (r : Reply) (overrun : Bool) :
    r.payload overrun
      = BitVec.ofNat 8 r.status.code :: (if overrun then 1 else 0) :: r.echo :: encodeFields r.results := by
  cases overrun <;> rfl

/-- A frame that answers no command ends on port U (R180). -/
theorem sentU_none {s : State} {u : UpFrame} (hu : s.link.sendingU = some u) (hanswers : u.answers = none) :
    s.sentU = { s with link.sendingU := none } := by
  simp [State.sentU, hu, hanswers]

/-- A frame that answers a command takes it out of the queue (R155, R180). -/
theorem sentU_some {s : State} {u : UpFrame} {place : Nat} (hu : s.link.sendingU = some u)
    (hanswers : u.answers = some place) :
    s.sentU = { s with link.sendingU := none, cmd.held := s.cmd.held.filter fun c => c.place ≠ place } := by
  simp [State.sentU, State.withHeld, hu, hanswers]

/-- A command that leaves the queue lets none begin to wait. -/
theorem sentU_head {s : State} (h : s.head = none) : s.sentU.head = none := by
  cases hu : s.link.sendingU with
  | none => simpa [State.sentU, hu] using h
  | some u =>
    cases hanswers : u.answers with
    | none =>
      rw [sentU_none hu hanswers]
      exact h
    | some place =>
      rw [sentU_some hu hanswers]
      simp only [State.head, List.find?_eq_none] at h ⊢
      exact fun c hc => h c (List.mem_filter.mp hc).1

/-- A frame that ends on port D makes way for the next handed over (R170). -/
theorem sentD_portD (s : State) : s.sentD.link.portD = s.link.queueD := by
  unfold State.sentD LinkUnit.portD
  split <;> simp_all

/-- Settles O46: the arbiter's cases by what waits, and the completions of both transmitters, which let no command begin to wait
(`sentU_head`, `sentD_portD`), so that their events end with the arbiter. -/
theorem framesSent : Obligations.FramesSent := by
  refine ⟨fun s hu => arbitrate_busy hu, fun s _ hout => arbitrate_idle fun _ => hout, fun s a rest hu ha => ?_,
    fun s r rest hu ha hr => ?_, fun s u rest hu ha hr hf => ?_, fun s h => ?_⟩
  · simp only [State.arbitrate, hu, ha]
    rfl
  · simp only [State.arbitrate, hu, ha, hr, reply_payload]
    rfl
  · simp [State.arbitrate, hu, ha, hr, hf]
  · obtain ⟨hrst, hhead⟩ := quiet_parts h
    refine ⟨fun u hu => ?_, s.sentD.arbitrate, event_quiet hrst ((head_of_held (by simp)).trans hhead), ?_, by simp, ?_,
      by simp, by simp⟩
    · refine (event_quiet hrst (sentU_head hhead)).trans ?_
      cases hanswers : u.answers with
      | none => rw [sentU_none hu hanswers]
      | some place => rw [sentU_some hu hanswers]
    · simpa [LinkUnit.portD] using sentD_portD s
    · simp [State.sameBlocks]

end Sys2Proof.CommandQueue
end

section
/-! SUPPORT. Frames on the wires: a good frame is found again in its bytes, a frame with a wrong check is not, and the
payloads of the nodes' frames and of the commands to the hub are read back field by field (R161, R171, R174, R181, R183). -/

namespace Sys2Proof.Framing

open Sys2Proof.Machine

/-! ## A frame in its bytes (R171, R181) -/

theorem addressByte_dest (f : Frame) : f.addressByte.extractLsb' 4 4 = f.dest :=
  BitVec.extractLsb'_append_eq_left

theorem addressByte_src (f : Frame) : f.addressByte.extractLsb' 0 4 = f.src :=
  BitVec.extractLsb'_append_eq_right

/-- The payload-length field holds the length of a payload that R171 admits. -/
theorem lengthByte_toNat {n : Nat} (h : n ≤ 24) : (BitVec.ofNat 8 n).toNat = n := by
  rw [BitVec.toNat_ofNat, Nat.mod_eq_of_lt (by omega)]

/-- A frame's header and payload with one byte behind them hold the frame where that byte is the check, and no frame
otherwise. -/
theorem burst_of_body {f : Frame} (x : Byte) (h : f.payload.length ≤ 24) :
    Burst.frame ⟨f.body ++ [x], false⟩ = if x = crc f.body then some f else none := by
  have hlen := lengthByte_toNat h
  have hsize : ¬ (f.body ++ [x]).length > 24 + 5 := by
    simp only [Frame.body, List.length_append, List.length_cons, List.length_nil]
    omega
  have hcut : (f.payload ++ [x]).take f.payload.length = f.payload := List.take_left
  have hlast : (f.payload ++ [x]).drop f.payload.length = [x] := List.drop_left
  have hroom : ¬ (f.payload.length > 24 ∨ (f.payload ++ [x]).length ≠ f.payload.length + 1) := by simp [h]
  have hread : (⟨f.addressByte.extractLsb' 4 4, f.addressByte.extractLsb' 0 4, f.kind, f.seq, f.payload⟩ : Frame) = f := by
    rw [addressByte_dest, addressByte_src]
  simp only [Burst.frame, Config.maxPayload, Bool.false_eq_true, false_or, if_neg hsize]
  simp only [Frame.body, List.cons_append, hlen, hcut, hlast, if_neg hroom, hread]
  exact if_congr List.singleton_inj rfl rfl

/-- A payload longer than R171 admits is found in no burst. -/
theorem burst_of_long {f : Frame} (x : Byte) (h : ¬ f.payload.length ≤ 24) :
    Burst.frame ⟨f.body ++ [x], false⟩ = none := by
  have hsize : (f.body ++ [x]).length > 24 + 5 := by
    simp only [Frame.body, List.length_append, List.length_cons, List.length_nil]
    omega
  exact if_pos (.inr hsize)

/-- A frame is found again in its bytes. -/
theorem burst_of_frame {f : Frame} (h : f.payload.length ≤ 24) : Burst.frame ⟨f.bytes, false⟩ = some f :=
  (burst_of_body _ h).trans (if_pos rfl)

/-- A wrong check makes a frame bad, whatever its length. -/
theorem burst_of_wrongCheck (f : Frame) {x : Byte} (hx : x ≠ crc f.body) :
    Burst.frame ⟨f.body ++ [x], false⟩ = none := by
  by_cases h : f.payload.length ≤ 24
  · exact (burst_of_body x h).trans (if_neg hx)
  · exact burst_of_long x h

/-- A framing error makes a burst bad (R170, R171). -/
theorem burst_of_framingError (b : List Byte) : Burst.frame ⟨b, true⟩ = none := if_pos (.inl rfl)

/-! ## The nodes' frames (R174, R181) -/

@[simp] theorem nodeOf_nodeAddress (n : NodeId) : nodeOf (nodeAddress n) = some n := by cases n <;> rfl

theorem classifyD_bytes {f : Frame} (fold : Bool) (h : f.payload.length ≤ 24) :
    classifyD ⟨f.bytes, false⟩ fold = routedEvent f fold := by
  rw [classifyD, burst_of_frame h]

theorem classifyD_bad {b : Burst} (fold : Bool) (h : b.frame = none) : classifyD b fold = .portDBadFrame := by
  rw [classifyD, h]

theorem readSample_sampleToFrame (c : CellId) (f : SampleFrame) :
    readSample (sampleToFrame c f).dest (sampleToFrame c f).seq (sampleToFrame c f).payload = some f := by
  simp [sampleToFrame, samplePayload, wordBytes, readSample]

theorem readInput_inputToFrame (f : InputFrame) :
    readInput (inputToFrame f).dest (inputToFrame f).seq (inputToFrame f).payload = some f := by
  simp [inputToFrame, wordBytes, readInput]

theorem readStage_stageToFrame (f : StageFrame) :
    readStage (stageToFrame f).dest (stageToFrame f).seq (stageToFrame f).payload = some f := by
  simp [stageToFrame, wordBytes, readStage]

theorem routedEvent_sample (c : CellId) (f : SampleFrame) (fold : Bool) :
    routedEvent (sampleToFrame c f) fold = .sample c f fold := by
  have hsrc : nodeOf (sampleToFrame c f).src = some (monitorOf c) := nodeOf_nodeAddress _
  have hkind : (sampleToFrame c f).kind = kindSample := rfl
  simp only [routedEvent, hsrc, hkind, readSample_sampleToFrame]
  cases c <;> rfl

theorem routedEvent_input (f : InputFrame) (fold : Bool) : routedEvent (inputToFrame f) fold = .input f := by
  have hsrc : nodeOf (inputToFrame f).src = some .m3 := rfl
  have hkind : (inputToFrame f).kind = kindInput := rfl
  simp only [routedEvent, hsrc, hkind, readInput_inputToFrame]
  rfl

theorem routedEvent_stage (f : StageFrame) (fold : Bool) : routedEvent (stageToFrame f) fold = .stage f := by
  have hsrc : nodeOf (stageToFrame f).src = some .s4 := rfl
  have hkind : (stageToFrame f).kind = kindStage := rfl
  simp only [routedEvent, hsrc, hkind, readStage_stageToFrame]
  rfl

theorem routedEvent_reply (n : NodeId) (dest : Address) (seq : Byte) (payload : List Byte) (fold : Bool) :
    routedEvent ⟨dest, nodeAddress n, kindReply, seq, payload⟩ fold = .nodeReply n dest seq payload := by
  simp [routedEvent]

/-- Settles O54: each frame is found in its bytes (`classifyD_bytes`) and read by its kind; a burst without a frame is bad
(`classifyD_bad`). -/
theorem nodeFramesReadBack : Obligations.NodeFramesReadBack := by
  refine ⟨fun c f fold => ?_, fun f fold => ?_, fun f fold => ?_, fun n dest seq payload fold hlen => ?_,
    fun b fold => classifyD_bad fold (burst_of_framingError b),
    fun f x fold hx => classifyD_bad fold (burst_of_wrongCheck f hx)⟩
  · exact (classifyD_bytes fold (by simp [sampleToFrame, samplePayload, wordBytes])).trans (routedEvent_sample c f fold)
  · exact (classifyD_bytes fold (by simp [inputToFrame, wordBytes])).trans (routedEvent_input f fold)
  · exact (classifyD_bytes fold (by simp [stageToFrame, wordBytes])).trans (routedEvent_stage f fold)
  · exact (classifyD_bytes fold hlen).trans (routedEvent_reply n dest seq payload fold)

/-! ## The commands to the hub (R161, R183) -/

/-- Each command's payload names it and carries its arguments; the two readings without a layout, and disposition 3 without a
position, are not written as themselves. -/
theorem parseCommand_encodeCommand {k : HubCommand} (hbad : k ≠ .badArguments) (hunknown : k ≠ .unknown)
    (hstep : k ≠ .resume 3) : parseCommand (encodeCommand k) = k := by
  cases k with
  | loadStep bank row col e => simp [encodeCommand, stepEntryBytes, parseCommand, readLoadStep]
  | loadCell i v | loadOcv i v s | loadDerate i t d | loadGuard i v | loadLimit i v | loadBalance i v | loadRoute i v =>
    simp [encodeCommand, parseCommand, readLoadTable]
  | offer v i cls => simp [encodeCommand, parseCommand, readOffer]
  | hold code => cases code <;> simp [encodeCommand, parseCommand, readHold]
  | shuttle cell amount => cases amount <;> simp [encodeCommand, parseCommand, readBalance]
  | setCharge cell content => cases content <;> simp [encodeCommand, parseCommand, readSetCharge]
  | swap bank target => cases target <;> rfl
  | resume d =>
    have hd : d ≠ 3 := fun h => hstep (h ▸ rfl)
    exact if_neg hd
  | clearEntry | clearBank | readStep | readTable | lock | start | stop | goto | override | resumeStep | accept | withdraw
    | ship | bleed | balanceStop | query => rfl
  | badArguments => exact absurd rfl hbad
  | unknown => exact absurd rfl hunknown

/-- RESET, name 21, is none of the commands the queue holds (R156, R161). -/
theorem parseCommand_of_isReset {dest : Address} {payload : List Byte} (h : isReset dest payload = true) :
    parseCommand payload = .unknown := by
  cases payload with
  | nil => rfl
  | cons name args =>
    obtain ⟨-, rfl⟩ : dest = hubAddress ∧ name = 21 := by simpa [isReset] using h
    rfl

theorem classifyU_command {dest src : Address} {seq : Byte} {payload : List Byte} (hlen : payload.length ≤ 24)
    (hreset : isReset dest payload = false) :
    classifyU ⟨Frame.bytes ⟨dest, src, kindCommand, seq, payload⟩, false⟩ = .command dest src seq payload := by
  rw [classifyU, burst_of_frame hlen]
  simp [hreset]

/-- Settles O53: the payload is read back by the layouts, and as it names a command it is no RESET. -/
theorem commandsReadBack : Obligations.CommandsReadBack := by
  intro k src seq hbad hunknown hstep
  have hparse := parseCommand_encodeCommand hbad hunknown hstep
  have hreset : isReset hubAddress (encodeCommand k) = false :=
    Bool.eq_false_iff.mpr fun h => hunknown (hparse.symm.trans (parseCommand_of_isReset h))
  exact ⟨hparse, fun hlen => classifyU_command hlen hreset⟩

end Sys2Proof.Framing
end

section
/-! SUPPORT. LOAD_TABLE to the route table: the fields of a route word, what R175 refuses, and the entry it stores. -/

namespace Sys2Proof.Tables

open Sys2Proof.Machine

/-! ## The route word (R183) -/

theorem hiByte_toNat (w : Word) : (hiByte w).toNat = w.toNat / 256 := by
  have := w.isLt
  rw [hiByte, BitVec.extractLsb'_toNat, Nat.shiftRight_eq_div_pow]
  omega

theorem passBits_toNat (w : Word) : (w.extractLsb' 1 2).toNat = w.toNat / 2 % 4 := by
  rw [BitVec.extractLsb'_toNat, Nat.shiftRight_eq_div_pow]

/-- The codes of R183 name the three pass settings. -/
theorem passOf_some {w : Word} {p : Pass} (h : p.code = w.toNat / 2 % 4) : passOf w = some p := by
  have hbits : w.extractLsb' 1 2 = BitVec.ofNat 2 p.code := by
    apply BitVec.eq_of_toNat_eq
    rw [passBits_toNat, ← h]
    cases p <;> rfl
  rw [passOf, hbits]
  cases p <;> rfl

/-- Pass code 3 names no setting. -/
theorem passOf_none {w : Word} (h : w.toNat / 2 % 4 = 3) : passOf w = none := by
  have hbits : w.extractLsb' 1 2 = 3 := BitVec.eq_of_toNat_eq ((passBits_toNat w).trans h)
  rw [passOf, hbits]
  rfl

/-- A pass code is one of the three settings', or 3. -/
theorem pass_of_code (w : Word) : w.toNat / 2 % 4 = 3 ∨ ∃ p : Pass, p.code = w.toNat / 2 % 4 := by
  have hlt : w.toNat / 2 % 4 < 4 := Nat.mod_lt _ (by decide)
  generalize w.toNat / 2 % 4 = code at hlt
  match code, hlt with
  | 0, _ => exact .inr ⟨.off, rfl⟩
  | 1, _ => exact .inr ⟨.plain, rfl⟩
  | 2, _ => exact .inr ⟨.annotated, rfl⟩
  | 3, _ => exact .inl rfl

/-- The four entries whose kind fits their node (R175). -/
theorem routeFits_iff (k : Fin 12) : routeFits k = true ↔ k.val = 0 ∨ k.val = 3 ∨ k.val = 7 ∨ k.val = 11 := by
  revert k
  decide

/-- N left as given gives OK, and a moved one CLAMPED. -/
theorem okOr_altered (n given : Nat) : okOr (n ≠ given) = if n = given then .ok else .clamped := by
  by_cases h : n = given <;> simp [okOr, h]

/-! ## Steps 2 and 3 of R175 -/

/-- Annotated is refused outside the SAMPLE entries, and use or a pass where the kind does not fit the node. -/
theorem routeEntryOf_refused {k : Fin 12} {w : Word}
    (h : w.toNat / 2 % 4 = 3 ∨ (w.toNat / 2 % 4 = 2 ∧ k.val % 3 ≠ 0)
      ∨ (routeFits k = false ∧ (w.getLsbD 0 = true ∨ w.toNat / 2 % 4 ≠ 0))) : routeEntryOf k w = none := by
  obtain hcode | ⟨p, hp⟩ := pass_of_code w
  · rw [routeEntryOf, passOf_none hcode]
  · rw [routeEntryOf, passOf_some hp]
    rw [← hp] at h
    obtain hcode | ⟨hcode, hk⟩ | ⟨hfits, huse⟩ := h
    · cases p <;> cases hcode
    · have hann : p = .annotated := by
        cases p with
        | annotated => rfl
        | off | plain => cases hcode
      exact if_pos ⟨hann, hk⟩
    · have huse' : w.getLsbD 0 = true ∨ p ≠ .off := huse.imp_right fun hcode hoff => hcode (by rw [hoff]; rfl)
      dsimp only
      rw [if_pos (c := routeFits k = false ∧ _) ⟨hfits, huse'⟩, ite_self]

/-- Any other word is stored: N clamped to 1..64 and the counter at 0. -/
theorem routeEntryOf_stored {k : Fin 12} {w : Word} {p : Pass} (hp : p.code = w.toNat / 2 % 4)
    (hann : p = .annotated → k.val % 3 = 0) (hfits : routeFits k = true ∨ (w.getLsbD 0 = false ∧ p = .off)) :
    routeEntryOf k w = some ⟨w.getLsbD 0, p, max 1 (min 64 (w.toNat / 256)), 0⟩ := by
  have hsample : ¬ (p = .annotated ∧ k.val % 3 ≠ 0) := fun ⟨h, hk⟩ => hk (hann h)
  have hnode : ¬ (routeFits k = false ∧ (w.getLsbD 0 = true ∨ p ≠ .off)) := by
    rintro ⟨hk, huse⟩
    obtain hfit | ⟨hunused, hoff⟩ := hfits
    · rw [hk] at hfit
      cases hfit
    · rw [hunused] at huse
      exact huse.elim nofun fun hpass => hpass hoff
  have hn : (clampTo 1 64 (hiByte w).toNat).toNat = max 1 (min 64 (w.toNat / 256)) := by
    rw [hiByte_toNat, clampTo]
    omega
  rw [routeEntryOf, passOf_some hp]
  dsimp only
  rw [if_neg hsample, if_neg hnode, hn]

/-! ## The command (R175) -/

section
variable {u : State} (c : HeldCommand) {index : Byte} (value : Word)

theorem loadRoute_unnamed (h : index.toNat ≥ 12) : u.loadRoute c index value = u.answer c .badEntry [] := by
  rw [State.loadRoute, indexOf_unnamed h]

variable {value}

theorem loadRoute_refused {k : Fin 12} (h : index.toNat = k.val) (he : routeEntryOf k value = none) :
    u.loadRoute c index value = u.answer c .badEntry [] := by
  rw [State.loadRoute, indexOf_named h]
  simp only [he]

theorem loadRoute_stored {k : Fin 12} {e : RouteEntry} (h : index.toNat = k.val) (he : routeEntryOf k value = some e) :
    u.loadRoute c index value
      = State.answer { u with routes := u.routes.set k e } c (okOr (e.n ≠ (hiByte value).toNat))
          [.word (routeWord e)] := by
  rw [State.loadRoute, indexOf_named h]
  simp only [he]

end

/-- A command that writes the route table acts on the state it finds. -/
theorem entered_withRoutes (s : State) (r : Vector RouteEntry 12) (seq : Byte) (k : HubCommand) :
    State.entered { s with routes := r } seq k = { s.entered seq k with routes := r } := by
  simp only [State.entered, arbitrate_eq]
  rfl

theorem entered_routes (s : State) (seq : Byte) (k : HubCommand) : (s.entered seq k).routes = s.routes := by simp

theorem loadRoute_reads (index : Byte) (value : Word) :
    parseCommand (encodeCommand (.loadRoute index value)) = .loadRoute index value :=
  Framing.parseCommand_encodeCommand nofun nofun nofun

/-- Settles O25: the refusals by index and by word (`routeEntryOf_refused`), then the write (`routeEntryOf_stored`). -/
theorem routeTableWritten : Obligations.RouteTableWritten := by
  intro s seq index value h code use fits
  refine ⟨fun hrefused => ?_, fun k p hk hp hann hfits => ?_⟩
  · refine hubCommand_loadTable h (loadRoute_reads _ _) rfl rfl ?_
    by_cases hindex : index.toNat ≥ 12
    · exact loadRoute_unnamed _ _ hindex
    · have hword := hrefused.resolve_left hindex
      obtain ⟨k, hk⟩ : ∃ k : Fin 12, index.toNat = k.val := ⟨⟨_, not_le.mp hindex⟩, rfl⟩
      rw [hk] at hword
      have hfits : ¬ fits k.val ↔ routeFits k = false := by rw [← Bool.not_eq_true, routeFits_iff]
      rw [hfits] at hword
      exact loadRoute_refused _ hk (routeEntryOf_refused hword)
  · intro n
    let e : RouteEntry := ⟨use, p, n, 0⟩
    have he : routeEntryOf k value = some e := routeEntryOf_stored hp hann (hfits.imp_left (routeFits_iff k).mpr)
    have hword : routeWord e = 256 * n + 2 * code + use.toNat := by rw [routeWord, hp]
    refine hubCommand_loadTable (t := { s with routes := s.routes.set k e }) h (loadRoute_reads _ _) rfl rfl ?_
    refine (loadRoute_stored _ hk he).trans ?_
    rw [entered_withRoutes s (s.routes.set k e), entered_routes, hiByte_toNat, okOr_altered, hword]

end Sys2Proof.Tables
end

section
/-! SUPPORT. The output queues make room: what a full forward queue discards, and an alert queued again (R178, R179). -/

namespace Sys2Proof.CommandQueue

open Sys2Proof.Machine Sys2Proof.Sequencing

/-! ## The forward queue (R178) -/

/-- A SAMPLE or INPUT is no node REPLY (R181). -/
theorem nodeReply_of_measured {u : UpFrame} (h : u.measured = true) : u.nodeReply = false := by
  have hkind : u.frame.kind = kindSample ∨ u.frame.kind = kindInput := by simpa [UpFrame.measured] using h
  obtain hkind | hkind := hkind <;> simp [UpFrame.nodeReply, hkind, kindSample, kindInput, kindReply]

/-- The oldest SAMPLE or INPUT is the frame discarded. -/
theorem discardOne_oldestMeasured {front rest : List UpFrame} {x : UpFrame} (hx : x.measured = true)
    (hfront : ∀ y ∈ front, y.measured = false) : discardOne (front ++ x :: rest) = front ++ rest := by
  have hany : (front ++ x :: rest).any UpFrame.measured = true := List.any_eq_true.mpr ⟨x, by simp, hx⟩
  rw [discardOne, if_pos hany, List.eraseP_append_right _ fun y hy => by simp [hfront y hy], List.eraseP_cons_of_pos hx]

/-- Where the queue holds a frame that is no node REPLY, one such frame is discarded from among the others. -/
theorem discardOne_other {q : List UpFrame} (h : ∃ x ∈ q, x.nodeReply = false) :
    ∃ front x rest, q = front ++ x :: rest ∧ discardOne q = front ++ rest ∧ x.nodeReply = false := by
  unfold discardOne
  split
  · next hany =>
    obtain ⟨u, hu, hmeasured⟩ := List.any_eq_true.mp hany
    obtain ⟨x, front, rest, -, hx, hq, herase⟩ := List.exists_of_eraseP hu hmeasured
    exact ⟨front, x, rest, hq, herase, nodeReply_of_measured hx⟩
  · obtain ⟨u, hu, hother⟩ := h
    obtain ⟨x, front, rest, -, hx, hq, herase⟩ := List.exists_of_eraseP (p := fun v => !v.nodeReply) hu (by simp [hother])
    exact ⟨front, x, rest, hq, herase, by simpa using hx⟩

theorem placeForward_full {s : State} (u : UpFrame) (h : s.out.forward.length = 8) :
    (s.placeForward u).out.forward = discardOne s.out.forward ++ [u] := by
  rw [placeForward_forward, roomed, if_neg (by simp [h, Config.forwardMax])]

/-! ## The alert queue (R179) -/

/-- An alert queued where its kind stands at most once takes that one's place; the alerts of other kinds stay. -/
theorem mem_of_putAlert {a : Alert} {q : List Alert} (h : (q.map (·.kind)).Nodup) :
    ∀ b ∈ putAlert a q, b = a ∨ (b ∈ q ∧ b.kind ≠ a.kind) := by
  induction q with
  | nil => simp [putAlert]
  | cons x xs ih =>
    obtain ⟨hx, hxs⟩ := List.nodup_cons.mp h
    intro b hb
    unfold putAlert at hb
    split at hb
    · next hkind =>
      obtain rfl | hmem := List.mem_cons.mp hb
      · exact .inl rfl
      · have hne : b.kind ≠ a.kind := fun hba => hx (List.mem_map.mpr ⟨b, hmem, hba.trans hkind.symm⟩)
        exact .inr ⟨List.mem_cons_of_mem _ hmem, hne⟩
    · next hkind =>
      obtain rfl | hmem := List.mem_cons.mp hb
      · exact .inr ⟨List.mem_cons_self, hkind⟩
      · exact (ih hxs b hmem).imp_right fun ⟨hold, hne⟩ => ⟨List.mem_cons_of_mem _ hold, hne⟩

/-- Settles O60: one frame that is no node REPLY goes (`discardOne_other`), the oldest SAMPLE or INPUT where one waits; an alert
takes the place of its kind (`putAlert_kinds`, `mem_of_putAlert`). -/
theorem queuesMakeRoom : Obligations.QueuesMakeRoom := by
  refine ⟨fun s u hfull hother => ?_, fun q a => ⟨putAlert_kinds a q, fun h => ⟨mem_putAlert a q, mem_of_putAlert h⟩⟩⟩
  rw [placeForward_full u hfull]
  obtain ⟨front, x, rest, hq, hdiscard, hx⟩ := discardOne_other hother
  refine ⟨?_, ?_, fun front x rest hq hx hfront => ?_⟩
  · rw [hq] at hfull
    simpa [hdiscard, Nat.add_assoc] using hfull
  · rw [hdiscard, hq]
    simp [hx]
  · rw [hq, discardOne_oldestMeasured hx hfront]

end Sys2Proof.CommandQueue
end

section
/-! SUPPORT. START refused: each start condition of R186 in its order, with the results that name it. -/

namespace Sys2Proof.Sequencing

open Sys2Proof.Machine

/-! ## The start conditions -/

/-- The columns of the override row, as the search for an empty one runs through them (R28). -/
theorem columns_eq_finRange : ([0, 1, 2, 3, 4, 5, 6, 7] : List (Fin 8)) = List.finRange 8 := rfl

/-- The lowest empty column is the empty one with every column below it filled (R28). -/
theorem lowestEmptyColumn_first {b : Bank} {k : Fin 8} (hk : bankEntry b overrideRow k = none)
    (hbelow : ∀ j : Fin 8, j < k → (bankEntry b overrideRow j).isSome) : lowestEmptyColumn b = some k := by
  rw [lowestEmptyColumn, columns_eq_finRange, List.find?_eq_some_iff_getElem]
  refine ⟨by simp [hk], k.val, by simp, by simp, fun j hj => ?_⟩
  simpa using hbelow ⟨j, hj.trans k.isLt⟩ hj

theorem lowestEmptyColumn_filled {b : Bank} (h : ∀ j : Fin 8, (bankEntry b overrideRow j).isSome) :
    lowestEmptyColumn b = none := Option.isNone_iff_eq_none.mp ((bankComplete_iff b).mpr h)

/-- Start conditions 3 to 8, which the address has no part in: the results of the first that fails (R186). -/
def tablesFailure (s : State) : Option (List Field) :=
  if s.path.derate.valid = false then some [.byte 3]
  else if s.cells.ocv.valid = false then some [.byte 4]
  else if s.cells.capacity .one = 0 then some [.byte 5, .byte 1]
  else if s.cells.capacity .two = 0 then some [.byte 5, .byte 2]
  else if (s.cell .one).known = false then some [.byte 6, .byte 1]
  else if (s.cell .two).known = false then some [.byte 6, .byte 2]
  else if s.guard.related = false then some (.byte 7 :: s.guard.relations)
  else if s.balance.related = false then some [.byte 8]
  else none

section
variable {s : State} {a : StepAddr}

/-- Condition 1: an override-row address, or an empty entry. -/
theorem startFailure_entry (h : a.row = overrideRow ∨ s.entryAt a = none) : s.startFailure a = some [.byte 1] :=
  if_pos (h.imp_right Option.isNone_iff_eq_none.mpr)

variable (hrow : a.row ≠ overrideRow) (he : (s.entryAt a).isSome)

include hrow he

/-- A filled profile entry passes condition 1. -/
theorem entryCondition_met : ¬ (a.row = overrideRow ∨ (s.entryAt a).isNone) := by
  simpa [hrow] using Option.isSome_iff_ne_none.mp he

/-- Condition 2: the bank's lowest empty override-row column. -/
theorem startFailure_column {k : Fin 8} (hk : lowestEmptyColumn (s.seqr.bank a.bank) = some k) :
    s.startFailure a = some [.byte 2, .byte k.val] := by
  rw [State.startFailure, if_neg (entryCondition_met hrow he), hk]

/-- With a profile entry named and its bank complete, conditions 3 to 8 are left. -/
theorem startFailure_complete (hcols : lowestEmptyColumn (s.seqr.bank a.bank) = none) :
    s.startFailure a = tablesFailure s := by
  rw [State.startFailure, if_neg (entryCondition_met hrow he), hcols]
  rfl

end

/-- The start relations fail exactly where one of R69's three is the other way round. -/
theorem related_eq_false (g : GuardUnit) :
    g.related = false ↔ g.softOv ≥ g.hardOv ∨ g.softUv ≤ g.hardUv ∨ g.chgTmax ≥ g.hardOt := by
  simp only [GuardUnit.related, Bool.and_eq_false_iff, decide_eq_false_iff_not, not_lt, gt_iff_lt, ge_iff_le, or_assoc]

theorem relations_eq (g : GuardUnit) :
    g.relations
      = [.mark (decide (g.softOv ≥ g.hardOv)), .mark (decide (g.softUv ≤ g.hardUv)),
          .mark (decide (g.chgTmax ≥ g.hardOt))] := by
  simp only [GuardUnit.relations, ← decide_not, not_lt, gt_iff_lt, ge_iff_le]

theorem balanceRelated_eq_false (b : BalanceUnit) : b.related = false ↔ b.shuttleStop ≥ b.shuttleStart := by
  simp only [BalanceUnit.related, decide_eq_false_iff_not, not_lt, ge_iff_le]

/-! ## The command -/

section
variable {u : State} (c : HeldCommand) {bank row col : Byte}

theorem takeStart_outside (h : u.op ≠ .config) : u.takeStart c bank row col = u.answer c .state [] := if_pos h

theorem takeStart_unnamed (h : u.op = .config) (ha : addressOf bank row col = none) :
    u.takeStart c bank row col = u.answer c .badEntry [] := by
  simp [State.takeStart, h, ha]

theorem takeStart_failed {a : StepAddr} {results : List Field} (h : u.op = .config)
    (ha : addressOf bank row col = some a) (hf : u.startFailure a = some results) :
    u.takeStart c bank row col = u.answer c .badTable results := by
  simp [State.takeStart, h, ha, hf]

end

/-- A START that is answered without a change. -/
theorem exec_startRefused {s : State} {seq bank row col : Byte} {status : Status} {results : List Field}
    (h : s.ready = true)
    (ha : (s.entered seq (.start bank row col)).takeStart (s.heldAs seq (.start bank row col) .waiting) bank row col
      = (s.entered seq (.start bank row col)).answer (s.heldAs seq (.start bank row col) .waiting) status results) :
    exec (.start seq bank row col) s = .next (s.replied seq (.start bank row col) status results) :=
  hubCommand_answers h rfl rfl (blockedOn_free rfl) rfl ha

/-- Settles O29: the operating state, the address, then the first start condition that fails, each from the model's search
for it (`startFailure_entry`, `startFailure_column`, `startFailure_complete`). -/
theorem startRefused : Obligations.StartRefused := by
  intro s seq bank row col h refused
  refine ⟨fun hop => ?_, fun hop ha => ?_, fun a hop ha => ?_⟩
  · exact exec_startRefused h (takeStart_outside _ (by simpa using hop))
  · exact exec_startRefused h (takeStart_unnamed _ (by simpa using hop) ha)
  have hfails {results : List Field} (hf : s.startFailure a = some results) : refused .badTable results :=
    exec_startRefused h (takeStart_failed _ (by simpa using hop) ha ((entered_startFailure _ _ _ _).trans hf))
  refine ⟨fun hentry => ?_, fun hrow he => ⟨fun k hk hbelow => ?_, fun hcols => ?_⟩⟩
  · exact hfails (startFailure_entry (hentry.imp_left Fin.ext))
  · exact hfails (startFailure_column (Fin.ne_of_val_ne hrow) he (lowestEmptyColumn_first hk hbelow))
  have htables {results : List Field} (hf : tablesFailure s = some results) : refused .badTable results :=
    hfails ((startFailure_complete (Fin.ne_of_val_ne hrow) he (lowestEmptyColumn_filled hcols)).trans hf)
  refine ⟨fun h3 => ?_, fun h3 h4 => ?_, fun h3 h4 => ⟨fun h5 => ?_, fun h5 h5' => ?_, fun h5 h5' =>
    ⟨fun h6 => ?_, fun h6 h6' => ?_, fun h6 h6' => ⟨fun h7 => ?_, fun hov huv hot h8 => ?_⟩⟩⟩⟩
  · exact htables (by simp [tablesFailure, h3])
  · exact htables (by simp [tablesFailure, h3, h4])
  · exact htables (by simp [tablesFailure, h3, h4, h5])
  · exact htables (by simp [tablesFailure, h3, h4, h5, h5'])
  · exact htables (by simp [tablesFailure, h3, h4, h5, h5', h6])
  · exact htables (by simp [tablesFailure, h3, h4, h5, h5', h6, h6'])
  · have hrelated := (related_eq_false s.guard).mpr h7
    exact htables (by simp [tablesFailure, h3, h4, h5, h5', h6, h6', hrelated, relations_eq])
  · have hrelated : s.guard.related = true := by simp [GuardUnit.related, hov, huv, hot]
    have hbalance := (balanceRelated_eq_false s.balance).mpr h8
    exact htables (by simp [tablesFailure, h3, h4, h5, h5', h6, h6', hrelated, hbalance])

end Sys2Proof.Sequencing
end

section
/-! SUPPORT. The RST line: a hub held in reset, and the setpoint its release calls for (R113, R121, R185). -/

namespace Sys2Proof.PowerPath

open Sys2Proof.Machine Sys2Proof.CommandQueue

/-- No event has an effect while RST is held (R185). -/
theorem event_inReset {s : State} (f : State → State) (h : s.rst = true) : s.event f = .next s := by
  rw [State.event, if_pos h]

/-- Every row but RST's own two is an event of the hub (R185). -/
theorem exec_inReset {i : Instr} {s : State} (h : s.rst = true) (hreset : i ≠ .powerOnOrRst)
    (hrelease : i ≠ .rstRelease) : exec i s = .next s := by
  cases i with
  | powerOnOrRst => exact absurd rfl hreset
  | rstRelease => exact absurd rfl hrelease
  | _ => apply event_inReset _ h

/-- The release calls for a setpoint, and with no command waiting the arbiter ends the event (R121, R185). -/
theorem exec_rstRelease {s : State} (h : s.rst = true) (hhead : s.head = none) :
    exec .rstRelease s = .next (State.callSetpoint { s with rst := false }).arbitrate := by
  have hquiet : (State.callSetpoint { s with rst := false }).head = none := (head_of_held (by simp)).trans hhead
  rw [← settle_quiet hquiet]
  exact congrArg Host.Outcome.next (if_pos h)

/-- Outside RUN, with NODE4 free, a setpoint called for is the state's zero setpoint, sent at once (R107, R115). -/
theorem callSetpoint_sent {s : State} (hop : s.op ≠ .run) (hfree : s.cmd.nodes.get .s4 = .empty) :
    s.callSetpoint = s.sendSetpoint s.idleSetpoint := by
  rw [State.callSetpoint, if_neg hop, transport_free _ hfree]

/-- The zero SETPOINT BATTERY numbered 0, byte by byte (R181). -/
theorem setpointFrame_batteryZero :
    setpointFrame ⟨.battery, 0, .off, 0, .config⟩ 0 = ⟨4, 0, 4, 0, [1, 0, 0, 0, 0, 0]⟩ := by decide

/-- Settles O3: no row has an effect in reset (`exec_inReset`), and the release sends the zero SETPOINT of CONFIG on idle
ports (`exec_rstRelease`, `callSetpoint_sent`). -/
theorem releaseSendsZeroSetpoint : Obligations.ReleaseSendsZeroSetpoint := by
  refine ⟨fun i s => exec_inReset, fun l fold => ?_⟩
  let u : State := { State.reset with pending := l, fold := fold, rst := false }
  have hcall : u.callSetpoint = u.sendSetpoint u.idleSetpoint := callSetpoint_sent nofun rfl
  have hidle : u.callSetpoint.arbitrate = u.sendSetpoint u.idleSetpoint := by
    rw [hcall, arbitrate_idle fun _ => rfl]
  have hlink : (u.sendSetpoint u.idleSetpoint).link = ⟨0, 0, 1, none, some ⟨4, 0, 4, 0, [1, 0, 0, 0, 0, 0]⟩, []⟩ :=
    congrArg (fun f => LinkUnit.mk 0 0 1 none (some f) []) setpointFrame_batteryZero
  exact ⟨u.sendSetpoint u.idleSetpoint, (exec_rstRelease rfl rfl).trans (congrArg _ hidle),
    rfl, rfl, rfl, hlink, rfl, rfl, rfl, rfl, rfl, rfl, rfl, rfl, rfl, rfl, rfl⟩

end Sys2Proof.PowerPath
end
